-- ==== Sys2Proof/Word.lean ====
section
/-! DEFINITION. The word types of the block: the event word of 30_encoding.md R70, the register widths of 10_state.md R20
and the bounded level that indexes the delay table (20_memory.md R57). -/

namespace Sys2Proof

/-- The 16-bit event word, bit 0 the least significant (30_encoding.md R70). -/
abbrev EventWord := BitVec 16

/-- Eight bits: `op`, `imm`, the register `lvl` and the answer `rdata` (R70, 10_state.md R20 and R33). -/
abbrev Byte := BitVec 8

/-- A timer counter and a table entry: 16 bits, unsigned (10_state.md R27, 20_memory.md R50). -/
abbrev Count := BitVec 16

/-- The register `fd`: 32 bits, two's complement (10_state.md R22). -/
abbrev Delay := BitVec 32

/-- A power level 0..100, the only index the delay table has (20_memory.md R50 and R57). -/
abbrev Level := Fin 101

end Sys2Proof
end

