-- ==== Sys2Proof/Config.lean ====
section
/-! DEFINITION. The configuration of the block: one choice of every parameter of 00_scope.md section 4 (rules R6 to R11),
fixed before RESET and not part of the state (10_state.md R28 and R34). The free values of the model stand here too. -/

namespace Sys2Proof

/-- "pull-up/pull-down mode of the zero-cross input" (00_scope.md R11). -/
inductive Pull where
  | up
  | down
deriving DecidableEq, Repr, Inhabited

/-- Which channel's expiry action runs first when both fall due in one TICK (42_timer.md R128). -/
inductive ExpiryOrder where
  | fireFirst
  | stopFirst
deriving DecidableEq, Repr, Inhabited

/-- One choice of all the parameters (00_scope.md section 4). `expiryOrder` is a function of the number of free values drawn
so far: the rule asks for a non-deterministic choice in the TICK step, and a constant function is the plain parameter
(DESIGN CHOICE, log 7). -/
structure Config where
  /-- HALF_PERIOD_USEC (R6). -/
  halfPeriodUsec : Nat
  /-- REF_HALF_PERIOD_USEC (R7). -/
  refHalfPeriodUsec : Nat
  /-- SENSOR_LAG_USEC (R8), open. -/
  sensorLagUsec : Nat
  /-- TABLE (R10): 101 unsigned 16-bit entries. -/
  table : Vector Count 101
  /-- ZC_PULL (R11). -/
  zcPull : Pull
  /-- OUT_ACTIVE_HIGH (R11). -/
  outActiveHigh : Bool
  /-- EXPIRY_ORDER (R11), open. -/
  expiryOrder : Nat → ExpiryOrder
  /-- STOP_EXPIRY_CANCELS_FIRE (R11). -/
  stopExpiryCancelsFire : Bool
  /-- DEFAULT_LEVEL (R11): 75 unless a configuration says otherwise. -/
  defaultLevel : Level := 75
deriving Inhabited

/-- STOP_DELAY_USEC, derived: half the half-period, truncated (00_scope.md R9). -/
def Config.stopDelayUsec (c : Config) : Nat := c.halfPeriodUsec / 2

/-- The default contents of the delay table, row by row as 20_memory.md R52 lists them. Used by tests and as the witness that a
well-formed configuration exists; no claim about the machine's own configuration rests on an entry (log 22). -/
def Config.defaultTableRows : List Nat :=
  [   0,  531,  753,  924, 1068, 1196, 1313, 1421, 1521, 1616] ++
  [1707, 1793, 1877, 1957, 2035, 2110, 2183, 2255, 2324, 2393] ++
  [2460, 2525, 2590, 2654, 2716, 2778, 2839, 2899, 2958, 3017] ++
  [3075, 3133, 3190, 3246, 3303, 3358, 3414, 3469, 3524, 3578] ++
  [3633, 3687, 3740, 3794, 3848, 3901, 3954, 4007, 4061, 4114] ++
  [4167, 4220, 4273, 4326, 4379, 4432, 4486, 4539, 4593, 4647] ++
  [4701, 4755, 4810, 4864, 4919, 4975, 5031, 5087, 5144, 5201] ++
  [5258, 5316, 5375, 5435, 5495, 5556, 5617, 5680, 5743, 5808] ++
  [5874, 5941, 6009, 6079, 6150, 6223, 6299, 6376, 6457, 6540] ++
  [6626, 6717, 6812, 6913, 7020, 7137, 7265, 7410, 7581, 7802] ++
  [8333]

/-- The default table as a configuration holds it. -/
def Config.defaultTable : Vector Count 101 :=
  ⟨(Config.defaultTableRows.map (BitVec.ofNat 16)).toArray, by decide⟩

/-- The configuration C60 of 95_test_vectors.md (its lag of 100 is the spec's example value). -/
def Config.c60 : Config where
  halfPeriodUsec := 8333
  refHalfPeriodUsec := 8333
  sensorLagUsec := 100
  table := Config.defaultTable
  zcPull := .up
  outActiveHigh := true
  expiryOrder := fun _ => .fireFirst
  stopExpiryCancelsFire := false

/-- The configuration C50 of 95_test_vectors.md. -/
def Config.c50 : Config := { Config.c60 with halfPeriodUsec := 10000 }

/-- FREE VALUE. The count a timer channel is left with by RESET ("unspecified", 10_state.md R36; "any value",
93_implementation_defined.md U5), applied to the number of free values drawn so far (log 8). -/
opaque Config.freeCount : Nat → Count

end Sys2Proof
end

