-- ==== Sys2Proof/Machine/Interpolator.lean ====
section
/-! DEFINITION. The delay-table interpolator: the three pure functions Lookup, Scaled and FireDelay of 40_delay_table.md, and
the value FireDelay leaves in the register `fd`. None interpolates between entries (R90) and none reads any state. -/

namespace Sys2Proof.Machine

/-- `Lookup(L) = MemRead(L, 2)`: the table entry, with the domain 0..100 (R91; 20_memory.md R50, R57 and R63). -/
def lookup (c : Config) (L : Level) : Count := c.table[L.val]

/-- `Scaled(L) = (Lookup(L) * HALF_PERIOD_USEC) div REF_HALF_PERIOD_USEC`: multiply first, exactly, then divide and truncate
(R94). With REF_HALF_PERIOD_USEC = 0, which no well-formed configuration has, the quotient is 0 (log 13). -/
def scaled (c : Config) (L : Level) : Nat := (lookup c L).toNat * c.halfPeriodUsec / c.refHalfPeriodUsec

/-- `FireDelay(L) = HALF_PERIOD_USEC - Scaled(L) - SENSOR_LAG_USEC`, over the signed integers (R96). -/
def fireDelay (c : Config) (L : Level) : Int := (c.halfPeriodUsec : Int) - scaled c L - c.sensorLagUsec

/-- What `fd` holds for level `L`: FireDelay in 32 signed bits (R96, 10_state.md R22). A value that does not fit keeps its low
32 bits; no well-formed configuration has one (log 12). -/
def fdValue (c : Config) (L : Level) : Delay := BitVec.ofInt 32 (fireDelay c L)

end Sys2Proof.Machine
end

