-- ==== Sys2Proof/Syntax.lean ====
section
/-! DEFINITION. The fifteen operations of the opcode map (30_encoding.md R71), one constructor each, with the operands of
R72 to R74, and the lines of the textual syntax (R77 and R78). -/

namespace Sys2Proof

/-- One operation of the block. Every operand value is legal (R72, R73), so every term is well formed. -/
inductive Instr where
  /-- NOP, 0x00 (43_level.md R145). -/
  | nop
  /-- GET_LEVEL, 0x01 (R141). -/
  | getLevel
  /-- SET_LEVEL v, 0x02 (R142). -/
  | setLevel (v : Byte)
  /-- INCREASE s, 0x03 (R143). -/
  | increase (s : Byte)
  /-- DECREASE s, 0x04 (R144). -/
  | decrease (s : Byte)
  /-- START, 0x05 (44_output.md R152). -/
  | start
  /-- STOP, 0x06 (R153). -/
  | stop
  /-- SHUTDOWN, 0x07 (R155). -/
  | shutdown
  /-- FALL, 0x10 (41_zero_cross.md R113). -/
  | fall
  /-- RISE, 0x11 (R114). -/
  | rise
  /-- SAMPLE b, 0x12: `b` is `imm[0]`, true for a high line (R111, 30_encoding.md R73). -/
  | sample (b : Bool)
  /-- TICK, 0x13 (42_timer.md R123). -/
  | tick
  /-- FIRE_EXPIRE, 0x14 (R125). -/
  | fireExpire
  /-- STOP_EXPIRE, 0x15 (R126). -/
  | stopExpire
  /-- RESET, 0xFF (70_reset_and_hazards.md R190). -/
  | reset
deriving DecidableEq, Repr

/-- Where an operation comes from (the column "class" of 30_encoding.md R71). -/
inductive OpClass where
  | cmd
  | evt
deriving DecidableEq, Repr

/-- One line of the textual syntax: an operation with its operand, or one of the pseudo-operations of R78. -/
inductive Line where
  | op (i : Instr)
  /-- `INCREASE` with no operand. -/
  | increaseDefault
  /-- `DECREASE` with no operand. -/
  | decreaseDefault
  /-- `TIMER_EXPIRED id`: 0 the fire-delay channel, 1 the stop-delay channel. -/
  | timerExpired (id : Fin 2)
  /-- `TICK*n`. -/
  | ticks (n : Nat)
deriving DecidableEq, Repr

end Sys2Proof
end

