-- ==== Sys2Proof/WellFormed.lean ====
section
/-! DEFINITION. Well-formed configurations (00_scope.md R12), one check per condition, and the machine's own configuration: a
well-formed one of which nothing else is known. An operation needs no check: its operand types hold exactly the legal values
(30_encoding.md R72 to R74), and the words that spell no operation are refused by the decoder (R75). -/

namespace Sys2Proof

/-- R12 item 1, the end points: `TABLE[0] = 0` and `TABLE[100] = REF_HALF_PERIOD_USEC`. That there are 101 entries of 16 bits
is the field's type. -/
def Config.tableEndsOk (c : Config) : Bool :=
  (Machine.lookup c 0).toNat == 0 && (Machine.lookup c 100).toNat == c.refHalfPeriodUsec

/-- R12 item 1, the order: `TABLE[i] ≤ TABLE[i+1]` for 0 ≤ i < 100. -/
def Config.tableMonotone (c : Config) : Bool :=
  (List.finRange 100).all fun i => decide ((Machine.lookup c i.castSucc).toNat ≤ (Machine.lookup c i.succ).toNat)

/-- R12 item 2, the reference: `REF_HALF_PERIOD_USEC ≥ 1`. -/
def Config.refOk (c : Config) : Bool := decide (1 ≤ c.refHalfPeriodUsec)

/-- R12 item 2, the half-period: `2 ≤ HALF_PERIOD_USEC ≤ 65535`. -/
def Config.halfPeriodOk (c : Config) : Bool := decide (2 ≤ c.halfPeriodUsec) && decide (c.halfPeriodUsec ≤ 65535)

/-- R12 item 3: `FireDelay(L) ≥ 1` for every level 1 ≤ L ≤ 99. `SENSOR_LAG_USEC ≥ 0` is the field's type. -/
def Config.lagOk (c : Config) : Bool :=
  (List.finRange 101).all fun L => L.val == 0 || L.val == 100 || decide (1 ≤ Machine.fireDelay c L)

/-- R12: a configuration is well formed when all of its conditions hold (item 4, `STOP_DELAY_USEC ≥ 1`, follows from item 2). -/
def Config.wf (c : Config) : Bool :=
  c.tableEndsOk && c.tableMonotone && c.refOk && c.halfPeriodOk && c.lagOk

/-- Every fire delay fits the registers: at least -2^31 for `fd` (10_state.md R22), at most 65535 for a counter (R27). A
well-formed configuration is representable; so are the ill-formed lags of 70_reset_and_hazards.md R212. -/
def Config.representable (c : Config) : Bool :=
  decide (c.halfPeriodUsec ≤ 65535) && (List.finRange 101).all fun L => decide (-2147483648 ≤ Machine.fireDelay c L)

/-- A well-formed configuration whose table is the 60 Hz-reference table (00_scope.md R7: REF_HALF_PERIOD_USEC = 8333). The
default values only show that there is one. -/
structure MachineConfig where
  cfg : Config := Config.c60
  wf : cfg.wf = true := by decide
  ref : cfg.refHalfPeriodUsec = 8333 := by rfl
deriving Inhabited

/-- The parameters of the machine at hand: any well-formed choice, with no body, so that no proof can see which (00_scope.md
R6 to R12; 92_eei_decisions.md "Notes on the OPEN parameters"; log 1). -/
opaque Config.chosen : MachineConfig

/-- The configuration of the machine: the chosen one, with DEFAULT_LEVEL = 75 (10_state.md R36; log 2). -/
def Config.current : Config := { Config.chosen.cfg with defaultLevel := 75 }

end Sys2Proof
end

