-- ==== Sys2Proof/Decode.lean ====
section
/-! DEFINITION. The event word (30_encoding.md): decoder, encoder, and the textual syntax with its pseudo-operations. Both
directions are written from the opcode map R71 and the operand rules R72 to R74. -/

namespace Sys2Proof

/-- The field `op`, bits 15:8 (R70). -/
def opField (w : EventWord) : Byte := w.extractLsb' 8 8

/-- The field `imm`, bits 7:0 (R70). -/
def immField (w : EventWord) : Byte := w.extractLsb' 0 8

/-- Why a word has no operation: its opcode is reserved (R75). -/
inductive DecodeError where
  | reservedOpcode (op : Byte)
deriving DecidableEq, Repr

/-- The decoder, total on every word: the opcode map of R71, the operand of R72 (`imm` whole), R73 (`imm[0]`) or none (R74,
`imm` ignored); a reserved opcode is rejected by name (R75). -/
def decode (w : EventWord) : Except DecodeError Instr :=
  match (opField w).toNat with
  | 0x00 => .ok .nop
  | 0x01 => .ok .getLevel
  | 0x02 => .ok (.setLevel (immField w))
  | 0x03 => .ok (.increase (immField w))
  | 0x04 => .ok (.decrease (immField w))
  | 0x05 => .ok .start
  | 0x06 => .ok .stop
  | 0x07 => .ok .shutdown
  | 0x10 => .ok .fall
  | 0x11 => .ok .rise
  | 0x12 => .ok (.sample ((immField w).getLsbD 0))
  | 0x13 => .ok .tick
  | 0x14 => .ok .fireExpire
  | 0x15 => .ok .stopExpire
  | 0xFF => .ok .reset
  | _ => .error (.reservedOpcode (opField w))

/-- The opcode of an operation (R71). -/
def opcode : Instr → Byte
  | .nop => 0x00
  | .getLevel => 0x01
  | .setLevel _ => 0x02
  | .increase _ => 0x03
  | .decrease _ => 0x04
  | .start => 0x05
  | .stop => 0x06
  | .shutdown => 0x07
  | .fall => 0x10
  | .rise => 0x11
  | .sample _ => 0x12
  | .tick => 0x13
  | .fireExpire => 0x14
  | .stopExpire => 0x15
  | .reset => 0xFF

/-- The operand field of an operation: R72, R73, and 0x00 where there is no operand (R74 "should be written as 0x00"). -/
def operandField : Instr → Byte
  | .nop => 0x00
  | .getLevel => 0x00
  | .setLevel v => v
  | .increase s => s
  | .decrease s => s
  | .start => 0x00
  | .stop => 0x00
  | .shutdown => 0x00
  | .fall => 0x00
  | .rise => 0x00
  | .sample b => if b then 0x01 else 0x00
  | .tick => 0x00
  | .fireExpire => 0x00
  | .stopExpire => 0x00
  | .reset => 0x00

/-- The encoder: opcode in bits 15:8, operand in bits 7:0 (R70). -/
def encode (i : Instr) : EventWord := opcode i ++ operandField i

/-- The bits of `imm` that the opcode reads: all for SET_LEVEL, INCREASE and DECREASE (R72), bit 0 for SAMPLE (R73), none
otherwise (R74). -/
def operandMask (op : Byte) : Byte :=
  match op.toNat with
  | 0x02 => 0xFF
  | 0x03 => 0xFF
  | 0x04 => 0xFF
  | 0x12 => 0x01
  | _ => 0x00

/-- A word with its ignored bits written as zero. -/
def clearIgnored (w : EventWord) : EventWord := opField w ++ (immField w &&& operandMask (opField w))

/-- The event word that `nbits` bits numbered from bit 0 of the first word spell, the bits above `nbits` zero. An operation is
one 16-bit word (R70), so there is no later word to lay out (log 20). -/
def tableWord (nbits w : Nat) : EventWord := BitVec.ofNat 16 (w % 2 ^ nbits)

/-- The operation the decoder reads from the bits of a table row; none where it refuses (log 20 for more than 16 bits). -/
def decodeTableWord (nbits w : Nat) : Option Instr :=
  if nbits ≤ 16 then
    match decode (tableWord nbits w) with
    | .ok i => some i
    | .error _ => none
  else none

/-- The class of an operation (R71, column "class"). -/
def opClass : Instr → OpClass
  | .nop => .cmd
  | .getLevel => .cmd
  | .setLevel _ => .cmd
  | .increase _ => .cmd
  | .decrease _ => .cmd
  | .start => .cmd
  | .stop => .cmd
  | .shutdown => .cmd
  | .fall => .evt
  | .rise => .evt
  | .sample _ => .evt
  | .tick => .evt
  | .fireExpire => .evt
  | .stopExpire => .evt
  | .reset => .evt

/-- The mnemonic of an operation (R71, R77). -/
def mnemonic : Instr → String
  | .nop => "NOP"
  | .getLevel => "GET_LEVEL"
  | .setLevel _ => "SET_LEVEL"
  | .increase _ => "INCREASE"
  | .decrease _ => "DECREASE"
  | .start => "START"
  | .stop => "STOP"
  | .shutdown => "SHUTDOWN"
  | .fall => "FALL"
  | .rise => "RISE"
  | .sample _ => "SAMPLE"
  | .tick => "TICK"
  | .fireExpire => "FIRE_EXPIRE"
  | .stopExpire => "STOP_EXPIRE"
  | .reset => "RESET"

/-- The operand a line writes after the mnemonic, if the operation has one (R77). -/
def textOperand : Instr → Option Nat
  | .nop => none
  | .getLevel => none
  | .setLevel v => some v.toNat
  | .increase s => some s.toNat
  | .decrease s => some s.toNat
  | .start => none
  | .stop => none
  | .shutdown => none
  | .fall => none
  | .rise => none
  | .sample b => some b.toNat
  | .tick => none
  | .fireExpire => none
  | .stopExpire => none
  | .reset => none

/-- One operation as a line of text: the mnemonic, then the operand in decimal if it has one (R77). -/
def text (i : Instr) : String :=
  match textOperand i with
  | none => mnemonic i
  | some n => mnemonic i ++ " " ++ toString n

/-- An operand that fits the field `imm` (R72: 0..255). -/
def byteOperand (n : Nat) : Option Byte := if n ≤ 255 then some (BitVec.ofNat 8 n) else none

/-- The line that a mnemonic and an optional decimal operand spell (R77, R78); none where there is no such line. The
shorthand `TICK*n` is spelled `TICK*` with the number n. The reading of the decimal digits is left out (log 23). -/
def lineOf (m : String) (n : Option Nat) : Option Line :=
  match n with
  | none =>
    if m = "NOP" then some (.op .nop)
    else if m = "GET_LEVEL" then some (.op .getLevel)
    else if m = "INCREASE" then some .increaseDefault
    else if m = "DECREASE" then some .decreaseDefault
    else if m = "START" then some (.op .start)
    else if m = "STOP" then some (.op .stop)
    else if m = "SHUTDOWN" then some (.op .shutdown)
    else if m = "FALL" then some (.op .fall)
    else if m = "RISE" then some (.op .rise)
    else if m = "TICK" then some (.op .tick)
    else if m = "FIRE_EXPIRE" then some (.op .fireExpire)
    else if m = "STOP_EXPIRE" then some (.op .stopExpire)
    else if m = "RESET" then some (.op .reset)
    else none
  | some k =>
    if m = "SET_LEVEL" then (byteOperand k).map fun v => .op (.setLevel v)
    else if m = "INCREASE" then (byteOperand k).map fun s => .op (.increase s)
    else if m = "DECREASE" then (byteOperand k).map fun s => .op (.decrease s)
    else if m = "SAMPLE" then
      if k = 0 then some (.op (.sample false)) else if k = 1 then some (.op (.sample true)) else none
    else if m = "TIMER_EXPIRED" then
      if k = 0 then some (.timerExpired 0) else if k = 1 then some (.timerExpired 1) else none
    else if m = "TICK*" then some (.ticks k)
    else none

/-- The operations a line stands for (the expansions of R78). -/
def expand : Line → List Instr
  | .op i => [i]
  | .increaseDefault => [.increase 1]
  | .decreaseDefault => [.decrease 1]
  | .timerExpired id => [if id = 0 then .fireExpire else .stopExpire]
  | .ticks n => List.replicate n .tick

/-- The event words a listing stands for, in order (R76, R77). -/
def assemble (ls : List Line) : List EventWord := (ls.flatMap expand).map encode

end Sys2Proof
end

