-- ==== Sys2Proof/Machine/State.lean ====
section
/-! DEFINITION. The state of the block: the nine fields of 10_state.md R20, and beside them the model's own two (the words the
environment will still apply, and the count of free values drawn). The reasons a step can stop. The state
right after reset (10_state.md R36). -/

namespace Sys2Proof.Machine

/-- Why the machine would stop with a fault: there is no reason. "The block raises no exception, ever" (60_exceptions.md R170),
so the type has no constructor; nothing raises one. Safe. -/
inductive Fault : Type
deriving DecidableEq, Repr

/-- Why a word has no step. -/
inductive Refusal where
  /-- Raised by an arm of `exec` that has no meaning yet; no arm does. Safe. -/
  | notModelled (mnemonic : String)
  /-- Raised by `step` on a reserved opcode: "A model should *refuse* a reserved word" (30_encoding.md R75). Safe (log 6). -/
  | reservedOpcode (op : Byte)
deriving DecidableEq, Repr

/-- The two timer channels (42_timer.md R120). -/
inductive ChannelId where
  | fire
  | stop
deriving DecidableEq, Repr

/-- One timer channel (10_state.md R25 and R27): the flag `pending` and the 16-bit counter `cnt`, which means something only
while `pending` is set. -/
structure Channel where
  pending : Bool
  cnt : Count
deriving DecidableEq, Repr

/-- The state: nine fields of the block (10_state.md R20), then two of the model's own. The configuration,
the table, the time, the answer of GET_LEVEL and the labels are no state (R34). -/
structure State where
  /-- `lvl`, the commanded level (R21). -/
  lvl : Byte
  /-- `fd`, the fire delay of `lvl`, signed (R22). -/
  fd : Delay
  /-- `out`, the switching output: true asserted (R24). -/
  out : Bool
  /-- `fire.pending` and `fire.cnt` (R25, R27). -/
  fire : Channel
  /-- `stop.pending` and `stop.cnt` (R25, R27). -/
  stop : Channel
  /-- `run`: true live, false shut down (R26). -/
  run : Bool
  /-- `zc_prev`: the level of `zc_in` at the last SAMPLE (R23). -/
  zcPrev : Bool
  /-- The environment's event words still to come, the next one first: the rest of the run (00_scope.md R13, 30_encoding.md
  R76). Not a queue of the block (10_state.md R34): no operation reads it (log 3). -/
  trace : List EventWord
  /-- How many free values have been drawn (log 7, log 8). -/
  freeSeq : Nat
deriving DecidableEq, Repr

/-- The state right after reset (10_state.md R36, 70_reset_and_hazards.md R190). The two counts are unspecified there and 0
here (log 9); no word of the environment has been placed (log 3, log 10). -/
def State.reset : State where
  lvl := BitVec.ofNat 8 Config.current.defaultLevel.val
  fd := fdValue Config.current Config.current.defaultLevel
  out := false
  fire := { pending := false, cnt := 0 }
  stop := { pending := false, cnt := 0 }
  run := true
  zcPrev := Config.current.zcPull == .up
  trace := []
  freeSeq := 0

end Sys2Proof.Machine
end

