-- ==== Sys2Proof/Machine/Operands.lean ====
section
/-! DEFINITION. The operand forms and the saturating arithmetic of the level commands (43_level.md R140; 30_encoding.md R72
and R73). -/

namespace Sys2Proof.Machine

/-- The operand of SET_LEVEL, INCREASE and DECREASE: `zext(imm)`, never sign-extended (30_encoding.md R72, R140 (a)). -/
def unsignedOperand (imm : Byte) : Nat := imm.toNat

/-- The clamp of SET_LEVEL: `min(v, 100)` (R140 (b)), a level by construction. -/
def clampLevel (v : Nat) : Level := ⟨min v 100, by omega⟩

/-- `lvl + s` without wrap-around, then clamped to 100 (R140 (c)). -/
def levelPlus (lvl : Byte) (step : Nat) : Nat := min (lvl.toNat + step) 100

/-- `max(lvl - s, 0)`, never wrapping (R140 (d)): subtraction of naturals saturates at 0. -/
def levelMinus (lvl : Byte) (step : Nat) : Nat := lvl.toNat - step

/-- The register value of a level: eight bits (10_state.md R21). -/
def levelReg (L : Level) : Byte := BitVec.ofNat 8 L.val

/-- The count `max(d, 1)` that ARM loads (42_timer.md R121). A value above 65535, which no well-formed configuration gives,
keeps its low 16 bits (log 12). -/
def armCount (d : Int) : Count := BitVec.ofInt 16 (max d 1)

end Sys2Proof.Machine
end

