-- ==== Sys2Proof/Machine/Flags.lean ====
section
/-! DEFINITION. The flags and what is computed from them: whether a channel falls due in a TICK and how it counts (42_timer.md
R123), the output pin (44_output.md R151), and the four state labels (10_state.md R31 and R32). -/

namespace Sys2Proof.Machine

/-- `due[ch]`: pending with at most one TICK to go (R123, phase 1). -/
def channelDue (ch : Channel) : Bool := ch.pending && decide (ch.cnt.toNat ≤ 1)

/-- Phase 1 of TICK on one channel: a pending count above 1 goes down by one (R123). -/
def channelCount (ch : Channel) : Channel :=
  if ch.pending && decide (1 < ch.cnt.toNat) then { ch with cnt := ch.cnt - 1 } else ch

/-- The pin `gate_out`, a function of `out` alone (R151). -/
def gateOut (c : Config) (s : State) : Bool := if c.outActiveHigh then s.out else !s.out

/-- The reset value of `zc_prev`: the idle level of the line (10_state.md R36). -/
def idleLine (c : Config) : Bool := c.zcPull == .up

/-- The source's four state names (R31). They are labels: no rule reads them. -/
inductive Label where
  | off
  | awaitingFire
  | on
  | awaitingSafeStop
deriving DecidableEq, Repr

/-- The total label function of R32 (92_eei_decisions.md D27). -/
def stateLabel (s : State) : Label :=
  if s.stop.pending then .awaitingSafeStop
  else if s.fire.pending then .awaitingFire
  else if s.out then .on
  else .off

/-- The sequencing triple (`out`, `fire.pending`, `stop.pending`), the normative sequencing state (R31). -/
def triple (s : State) : Bool × Bool × Bool := (s.out, s.fire.pending, s.stop.pending)

end Sys2Proof.Machine
end

