-- ==== Sys2Proof/Machine/Ops.lean ====
section
/-! DEFINITION. The micro-operations that the operation rules call (00_scope.md R17): ARM, CANCEL, DRIVE, the write of the pair
`lvl` and `fd`, the free values, the end of an operation, and taking the next event word from the
environment. The block takes no exception and has no return (60_exceptions.md R170, R176, R177), so there is no such operation
here. -/

namespace Sys2Proof.Machine

/-- A channel of the state. -/
def channel (ch : ChannelId) (s : State) : Channel :=
  match ch with
  | .fire => s.fire
  | .stop => s.stop

/-- The state with one channel replaced; the other is not touched (42_timer.md R120). -/
def withChannel (ch : ChannelId) (x : Channel) (s : State) : State :=
  match ch with
  | .fire => { s with fire := x }
  | .stop => { s with stop := x }

/-- `ARM(ch, d)`: pending, with the count `max(d, 1)`, whatever the channel held before (42_timer.md R121). -/
def arm (ch : ChannelId) (d : Int) (s : State) : State :=
  withChannel ch { pending := true, cnt := armCount d } s

/-- `CANCEL(ch)`: not pending; the count is left as it was (42_timer.md R122; log 11). -/
def cancel (ch : ChannelId) (s : State) : State :=
  withChannel ch { channel ch s with pending := false } s

/-- `DRIVE(b)`: the one way `out` is written; it sets, it does not invert (44_output.md R150). -/
def drive (b : Bool) (s : State) : State := { s with out := b }

/-- The write of `lvl` and `fd`, together and only together (43_level.md R142, 20_memory.md R58). -/
def writeLevel (c : Config) (L : Level) (s : State) : State :=
  { s with lvl := levelReg L, fd := fdValue c L }

/-- The end of an operation: always a next state, since no operation has an error outcome (60_exceptions.md R170). -/
def done (s : State) : Host.Outcome State Fault Refusal := .next s

/-- The event word the environment applies next. When it has none, the command port shows its idle word 0x0000, the NOP that
"stands for a moment at which the host presents no command" (43_level.md R145; log 4). -/
def fetchWord (s : State) : EventWord :=
  match s.trace with
  | [] => 0x0000
  | w :: _ => w

/-- The state after that word has been taken. -/
def afterFetch (s : State) : State := { s with trace := s.trace.tail }

/-- A word placed so that it is the next one the environment applies (log 3). -/
def placeWord (w : EventWord) (s : State) : State := { s with trace := w :: s.trace }

/-- The refusal of a word the decoder rejects (30_encoding.md R75). -/
def refuseWord : DecodeError → Host.Outcome State Fault Refusal
  | .reservedOpcode op => .refused (.reservedOpcode op)

end Sys2Proof.Machine
end

