-- ==== Sys2Proof/Machine/Output.lean ====
section
/-! DEFINITION. The override commands START, STOP and SHUTDOWN (44_output.md). None depends on the configuration. -/

namespace Sys2Proof.Machine

/-- `CANCEL(fire) ; DRIVE(b)`: the two statements that START, STOP and the fast paths of FALL share (R154). -/
def forceOutput (b : Bool) (s : State) : State := drive b (cancel .fire s)

/-- START (R152). -/
def execStart (s : State) : Host.Outcome State Fault Refusal :=
  done (if s.run then forceOutput true s else s)

/-- STOP (R153): the stop channel is left alone. -/
def execStop (s : State) : Host.Outcome State Fault Refusal :=
  done (if s.run then forceOutput false s else s)

/-- The four statements of SHUTDOWN (R155). -/
def shutdownOn (s : State) : State :=
  if s.run then { drive false (cancel .stop (cancel .fire s)) with run := false } else s

/-- SHUTDOWN (R155). -/
def execShutdown (s : State) : Host.Outcome State Fault Refusal := done (shutdownOn s)

end Sys2Proof.Machine
end

