-- ==== Sys2Proof/Machine/Edges.lean ====
section
/-! DEFINITION. The edge events FALL and RISE and the edge detector SAMPLE (41_zero_cross.md). -/

namespace Sys2Proof.Machine

/-- FALL: level 100 asserts at once, level 0 de-asserts, any other level arms the fire channel with `fd` (R113). -/
def fallOn (s : State) : State :=
  if s.run then
    if s.lvl.toNat = 100 then forceOutput true s
    else if s.lvl.toNat = 0 then forceOutput false s
    else arm .fire s.fd.toInt s
  else s

/-- FALL (R113). -/
def execFall (s : State) : Host.Outcome State Fault Refusal := done (fallOn s)

/-- RISE: arm the stop channel with STOP_DELAY_USEC, whatever the level and the output (R114). -/
def riseOn (c : Config) (s : State) : State :=
  if s.run then arm .stop (c.stopDelayUsec : Int) s else s

/-- RISE (R114). -/
def execRise (s : State) : Host.Outcome State Fault Refusal := done (riseOn Config.current s)

/-- SAMPLE b: record the line; high then low is a FALL, low then high is a RISE, in the same step (R111). No filter (R112). -/
def sampleOn (c : Config) (b : Bool) (s : State) : State :=
  if s.run then
    if s.zcPrev && !b then fallOn { s with zcPrev := b }
    else if !s.zcPrev && b then riseOn c { s with zcPrev := b }
    else { s with zcPrev := b }
  else s

/-- SAMPLE b (R111). -/
def execSample (b : Bool) (s : State) : Host.Outcome State Fault Refusal := done (sampleOn Config.current b s)

end Sys2Proof.Machine
end

