-- ==== Sys2Proof/Machine/Level.lean ====
section
/-! DEFINITION. The level commands NOP, GET_LEVEL, SET_LEVEL, INCREASE and DECREASE (43_level.md). Each takes the configuration
as an argument; the meaning `exec…` is the one for the machine's own configuration. -/

namespace Sys2Proof.Machine

/-- NOP changes nothing and gives no answer (R145). -/
def execNop (s : State) : Host.Outcome State Fault Refusal := done s

/-- GET_LEVEL writes no state, also while `run = 0` (R141). Its answer is `getLevelAnswer`, an output of the step and no state
(10_state.md R34). -/
def execGetLevel (s : State) : Host.Outcome State Fault Refusal := done s

/-- The answer of GET_LEVEL on `rdata`: `zext_8(lvl)`, dead or alive (R141, 92_eei_decisions.md D20). -/
def getLevelAnswer (s : State) : Byte := s.lvl

/-- SET_LEVEL of an unsigned value: clamp, then both registers in one step; nothing while `run = 0` (R142). -/
def setLevelOn (c : Config) (v : Nat) (s : State) : State :=
  if s.run then writeLevel c (clampLevel v) s else s

/-- SET_LEVEL v (R142). -/
def execSetLevel (imm : Byte) (s : State) : Host.Outcome State Fault Refusal :=
  done (setLevelOn Config.current (unsignedOperand imm) s)

/-- INCREASE: nothing at level 100, otherwise SET_LEVEL of the saturated sum (R143). -/
def increaseOn (c : Config) (step : Nat) (s : State) : State :=
  if s.run then
    if s.lvl.toNat = 100 then s else setLevelOn c (levelPlus s.lvl step) s
  else s

/-- INCREASE s (R143). -/
def execIncrease (imm : Byte) (s : State) : Host.Outcome State Fault Refusal :=
  done (increaseOn Config.current (unsignedOperand imm) s)

/-- DECREASE: nothing at level 0, otherwise SET_LEVEL of the saturated difference (R144). -/
def decreaseOn (c : Config) (step : Nat) (s : State) : State :=
  if s.run then
    if s.lvl.toNat = 0 then s else setLevelOn c (levelMinus s.lvl step) s
  else s

/-- DECREASE s (R144). -/
def execDecrease (imm : Byte) (s : State) : Host.Outcome State Fault Refusal :=
  done (decreaseOn Config.current (unsignedOperand imm) s)

end Sys2Proof.Machine
end

