-- ==== Sys2Proof/Machine/Lifecycle.lean ====
section
/-! DEFINITION. RESET, the construction of the block (70_reset_and_hazards.md R190). -/

namespace Sys2Proof.Machine

/-- The seven writes of RESET, whatever `run` is, and the two counts it leaves unspecified: two free values (R190, R36;
log 8). Any pending timer is discarded without its expiry action. -/
def resetOn (c : Config) (s : State) : State :=
  { writeLevel c c.defaultLevel s with
    out := false
    fire := { pending := false, cnt := Config.freeCount s.freeSeq }
    stop := { pending := false, cnt := Config.freeCount (s.freeSeq + 1) }
    run := true
    zcPrev := idleLine c
    freeSeq := s.freeSeq + 2 }

/-- RESET (R190). -/
def execReset (s : State) : Host.Outcome State Fault Refusal := done (resetOn Config.current s)

end Sys2Proof.Machine
end

