-- ==== Sys2Proof/Machine/Timer.lean ====
section
/-! DEFINITION. The timer scheduler: the two expiry actions and TICK (42_timer.md). -/

namespace Sys2Proof.Machine

/-- FIRE_EXPIRE: a pending fire channel becomes idle and the output is asserted; an idle one does nothing (R125). -/
def fireExpireOn (s : State) : State :=
  if s.run && s.fire.pending then drive true (cancel .fire s) else s

/-- FIRE_EXPIRE (R125). -/
def execFireExpire (s : State) : Host.Outcome State Fault Refusal := done (fireExpireOn s)

/-- STOP_EXPIRE: a pending stop channel becomes idle and the output is de-asserted (R126); with STOP_EXPIRY_CANCELS_FIRE the
fire channel is cancelled too (R127). -/
def stopExpireOn (c : Config) (s : State) : State :=
  if s.run && s.stop.pending then
    if c.stopExpiryCancelsFire then cancel .fire (drive false (cancel .stop s)) else drive false (cancel .stop s)
  else s

/-- STOP_EXPIRE (R126). -/
def execStopExpire (s : State) : Host.Outcome State Fault Refusal := done (stopExpireOn Config.current s)

/-- Phase 1 of TICK: both channels count, from the state before the TICK (R123). -/
def countBoth (s : State) : State := { s with fire := channelCount s.fire, stop := channelCount s.stop }

/-- Phase 2 of TICK for one channel: the expiry action of a channel that fell due in phase 1. The actions test `pending` again
(R123), so a fire channel cancelled by the stop expiry in this TICK does not expire. -/
def expireIfDue (c : Config) (ch : ChannelId) (due : Bool) (s : State) : State :=
  if due then
    match ch with
    | .fire => fireExpireOn s
    | .stop => stopExpireOn c s
  else s

/-- Phase 2 of TICK in a given order (R123, R128). -/
def expireInOrder (c : Config) (order : ExpiryOrder) (dueFire dueStop : Bool) (s : State) : State :=
  match order with
  | .fireFirst => expireIfDue c .stop dueStop (expireIfDue c .fire dueFire s)
  | .stopFirst => expireIfDue c .fire dueFire (expireIfDue c .stop dueStop s)

/-- When both channels fall due the order is a free value, drawn from EXPIRY_ORDER (R128; log 7). -/
def drawOrder (c : Config) (dueFire dueStop : Bool) (s : State) : ExpiryOrder × State :=
  if dueFire && dueStop then (c.expiryOrder s.freeSeq, { s with freeSeq := s.freeSeq + 1 }) else (.fireFirst, s)

/-- TICK, one microsecond: count, then expire (R123). -/
def tickOn (c : Config) (s : State) : State :=
  if s.run then
    expireInOrder c (drawOrder c (channelDue s.fire) (channelDue s.stop) s).1 (channelDue s.fire) (channelDue s.stop)
      (countBoth (drawOrder c (channelDue s.fire) (channelDue s.stop) s).2)
  else s

/-- TICK (R123). -/
def execTick (s : State) : Host.Outcome State Fault Refusal := done (tickOn Config.current s)

end Sys2Proof.Machine
end

