-- ==== Sys2Proof/Machine/Dispatch.lean ====
section
/-! DEFINITION. One arm per operation of the opcode map (30_encoding.md R71). -/

namespace Sys2Proof.Machine

/-- The effect of one operation, one atomic step (00_scope.md R13). -/
def exec (i : Instr) (s : State) : Host.Outcome State Fault Refusal :=
  match i with
  | .nop => Sys2Proof.Machine.execNop s
  | .getLevel => Sys2Proof.Machine.execGetLevel s
  | .setLevel v => Sys2Proof.Machine.execSetLevel v s
  | .increase v => Sys2Proof.Machine.execIncrease v s
  | .decrease v => Sys2Proof.Machine.execDecrease v s
  | .start => Sys2Proof.Machine.execStart s
  | .stop => Sys2Proof.Machine.execStop s
  | .shutdown => Sys2Proof.Machine.execShutdown s
  | .fall => Sys2Proof.Machine.execFall s
  | .rise => Sys2Proof.Machine.execRise s
  | .sample b => Sys2Proof.Machine.execSample b s
  | .tick => Sys2Proof.Machine.execTick s
  | .fireExpire => Sys2Proof.Machine.execFireExpire s
  | .stopExpire => Sys2Proof.Machine.execStopExpire s
  | .reset => Sys2Proof.Machine.execReset s

end Sys2Proof.Machine
end

