-- ==== Sys2Proof/Machine/Step.lean ====
section
/-! DEFINITION. One step: the environment applies its next event word (00_scope.md R13, 30_encoding.md R76). -/

namespace Sys2Proof.Machine

/-- Take the next event word, decode it, run it; a reserved word is refused (R75). -/
def step (s : State) : Host.Outcome State Fault Refusal :=
  match decode (fetchWord s) with
  | .ok i => exec i (afterFetch s)
  | .error e => refuseWord e

/-- The state in which the environment's next word is the one these bits spell (log 3): nothing else changes. -/
def State.withFetchWord (s : State) (nbits w : Nat) : State := placeWord (tableWord nbits w) s

end Sys2Proof.Machine
end

