-- ==== Sys2Proof/Machine/Ports.lean ====
section
/-! DEFINITION. The ports of the hardware reading (10_state.md R33) and how the activity of one instant becomes operations. "The
ports are a convenience"; the normative interface is the sequence of operations, which `step` takes from `trace`. -/

namespace Sys2Proof.Machine

/-- The input ports at one instant. `zcIn` holds the level of the line if it is sampled at this instant: how often it is
sampled is not fixed (41_zero_cross.md R111 and R112). -/
structure InPorts where
  rst : Bool
  zcIn : Option Bool
  tick1us : Bool
  cmdValid : Bool
  cmd : EventWord
deriving DecidableEq, Repr

/-- The output ports (R33). -/
structure OutPorts where
  rdata : Option Byte
  gateOut : Bool
deriving DecidableEq, Repr

/-- The event words that the input ports of one instant give rise to (R33, last column). -/
def portWords (p : InPorts) : List EventWord :=
  (if p.rst then [encode .reset] else []) ++
  (match p.zcIn with
   | none => []
   | some b => [encode (.sample b)]) ++
  (if p.tick1us then [encode .tick] else []) ++
  (if p.cmdValid then [p.cmd] else [])

/-- EVENT_ORDER is open: any order of an instant's operations is admitted, and no source has priority (60_exceptions.md R175). -/
def admittedOrder (p : InPorts) (ws : List EventWord) : Prop := ws.Perm (portWords p)

/-- The traces that a sequence of instants may give: each instant's operations, in any order, one instant after the other. -/
def admittedTrace : List InPorts → List EventWord → Prop
  | [], ws => ws = []
  | p :: ps, ws => ∃ now later, ws = now ++ later ∧ admittedOrder p now ∧ admittedTrace ps later

/-- What an operation puts on `rdata`: an output of its step, held in no field of the state (R34, R33). GET_LEVEL answers the
level (43_level.md R141), every other operation gives no answer. -/
def answerOf (i : Instr) (s : State) : Option Byte :=
  match i with
  | .nop => none
  | .getLevel => some (getLevelAnswer s)
  | .setLevel _ => none
  | .increase _ => none
  | .decrease _ => none
  | .start => none
  | .stop => none
  | .shutdown => none
  | .fall => none
  | .rise => none
  | .sample _ => none
  | .tick => none
  | .fireExpire => none
  | .stopExpire => none
  | .reset => none

/-- What the machine's next step puts on `rdata`: the answer of the operation it runs; a reserved word "produces no answer"
(30_encoding.md R75). -/
def stepAnswer (s : State) : Option Byte :=
  match decode (fetchWord s) with
  | .ok i => answerOf i (afterFetch s)
  | .error _ => none

/-- The output ports in the step of an operation: its answer, and the pin, which follows `out` at the end of the operation
(R33, 44_output.md R151). None where the operation has no next state. -/
def outPorts (c : Config) (i : Instr) (s : State) : Option OutPorts :=
  match exec i s with
  | .next t => some { rdata := answerOf i s, gateOut := gateOut c t }
  | .fault _ => none
  | .refused _ => none

end Sys2Proof.Machine
end

