-- ==== Sys2Proof/Safety.lean ====
section
/-! DEFINITION. The terms in which claims speak of runs: a sequence of operations applied in order, the invariants of the
reachable states (10_state.md R29), what re-arms or cancels a timer, the interface profiles and the standing assumption. -/

namespace Sys2Proof.Machine

/-- The effect of a sequence of operations, applied in order (00_scope.md R13). -/
def runOps : List Instr → State → Host.Outcome State Fault Refusal
  | [], s => .next s
  | i :: is, s =>
    match exec i s with
    | .next t => runOps is t
    | .fault f => .fault f
    | .refused r => .refused r

/-- The answers that a sequence of operations gives on `rdata`, in order (43_level.md R141). -/
def answersOf : List Instr → State → List Byte
  | [], _ => []
  | i :: is, s =>
    (answerOf i s).toList ++
      match exec i s with
      | .next t => answersOf is t
      | .fault _ => []
      | .refused _ => []

/-- The time a sequence of operations takes: its number of TICKs (R14). -/
def ticksIn (is : List Instr) : Nat := is.count .tick

/-- The invariants of the reachable states (10_state.md R29), for a configuration `c`. -/
structure Inv (c : Config) (s : State) : Prop where
  /-- Item 1. -/
  level : s.lvl.toNat ≤ 100
  /-- Item 2: `fd = FireDelay(lvl)`, as signed integers. -/
  delay : s.fd.toInt = fireDelay c (clampLevel s.lvl.toNat)
  /-- Item 3, lower bound. -/
  fireLow : s.fire.pending = true → 1 ≤ s.fire.cnt.toNat
  /-- Item 3, upper bound. -/
  fireHigh : s.fire.pending = true → (s.fire.cnt.toNat : Int) ≤ (c.halfPeriodUsec : Int) - c.sensorLagUsec - scaled c 1
  /-- Item 4. -/
  stopLow : s.stop.pending = true → 1 ≤ s.stop.cnt.toNat
  /-- Item 4. -/
  stopHigh : s.stop.pending = true → s.stop.cnt.toNat ≤ c.stopDelayUsec
  /-- Item 5. -/
  dead : s.run = false → s.out = false ∧ s.fire.pending = false ∧ s.stop.pending = false

/-- Whether an operation re-arms, cancels or from outside expires the fire channel in a state (42_timer.md R122, R124, R127):
what must not happen between an arming and its expiry for the timing law to speak of it. -/
def disturbsFire (c : Config) (i : Instr) (s : State) : Bool :=
  match i with
  | .nop => false
  | .getLevel => false
  | .setLevel _ => false
  | .increase _ => false
  | .decrease _ => false
  | .start => true
  | .stop => true
  | .shutdown => true
  | .fall => true
  | .rise => false
  | .sample b => s.zcPrev && !b
  | .tick => c.stopExpiryCancelsFire && channelDue s.stop
  | .fireExpire => true
  | .stopExpire => c.stopExpiryCancelsFire && s.stop.pending
  | .reset => true

/-- The same for the stop channel (R122, R124). -/
def disturbsStop (i : Instr) (s : State) : Bool :=
  match i with
  | .nop => false
  | .getLevel => false
  | .setLevel _ => false
  | .increase _ => false
  | .decrease _ => false
  | .start => false
  | .stop => false
  | .shutdown => true
  | .fall => false
  | .rise => true
  | .sample b => !s.zcPrev && b
  | .tick => false
  | .fireExpire => false
  | .stopExpire => true
  | .reset => true

/-- The same, by channel. -/
def disturbs (c : Config) (ch : ChannelId) (i : Instr) (s : State) : Bool :=
  match ch with
  | .fire => disturbsFire c i s
  | .stop => disturbsStop i s

/-- No operation of the sequence disturbs the channel, each judged in the state it finds. -/
def undisturbed (c : Config) (ch : ChannelId) : List Instr → State → Prop
  | [], _ => True
  | i :: is, s => disturbs c ch i s = false ∧ ∀ t, exec i s = .next t → undisturbed c ch is t

/-- Two channels that differ at most in a count that means nothing, because the channel is idle (10_state.md R27). -/
def sameChannel (x y : Channel) : Prop := x.pending = y.pending ∧ (x.pending = true → x.cnt = y.cnt)

/-- Two states that differ at most in the counts of idle channels. -/
def sameButIdleCounts (s t : State) : Prop :=
  sameChannel s.fire t.fire ∧ sameChannel s.stop t.stop ∧ { s with fire := t.fire, stop := t.stop } = t

/-- Two states whose nine fields are the block's same state: only the model's own fields may differ (10_state.md R20). -/
def sameBlock (s t : State) : Prop :=
  { s with trace := t.trace, freeSeq := t.freeSeq } = t

/-- The edge and time events of 44_output.md R157 item 3. -/
def isEdgeOrTick : Instr → Bool
  | .nop => false
  | .getLevel => false
  | .setLevel _ => false
  | .increase _ => false
  | .decrease _ => false
  | .start => false
  | .stop => false
  | .shutdown => false
  | .fall => true
  | .rise => true
  | .sample _ => true
  | .tick => true
  | .fireExpire => false
  | .stopExpire => false
  | .reset => false

/-- The level commands (43_level.md). -/
def isLevelCommand : Instr → Bool
  | .nop => true
  | .getLevel => true
  | .setLevel _ => true
  | .increase _ => true
  | .decrease _ => true
  | .start => false
  | .stop => false
  | .shutdown => false
  | .fall => false
  | .rise => false
  | .sample _ => false
  | .tick => false
  | .fireExpire => false
  | .stopExpire => false
  | .reset => false

/-- Profile T: no expiry word in the input (30_encoding.md R76). -/
def profileT (is : List Instr) : Bool := is.all fun i => i != .fireExpire && i != .stopExpire

/-- Profile E: no TICK in the input (R76). -/
def profileE (is : List Instr) : Bool := is.all fun i => i != .tick

/-- "A run must not mix the profiles" (R76): a duty of the environment, which `step` does not enforce (log 16). -/
def unmixed (is : List Instr) : Bool := profileT is || profileE is

/-- The edge events of a sequence, in order; `true` for a FALL. -/
def edgesOf : List Instr → List Bool
  | [] => []
  | .fall :: is => true :: edgesOf is
  | .rise :: is => false :: edgesOf is
  | _ :: is => edgesOf is

/-- The standing assumption (70_reset_and_hazards.md R200): FALL and RISE alternate strictly. The block does not need it. -/
def alternating (is : List Instr) : Prop := (edgesOf is).IsChain (· ≠ ·)

end Sys2Proof.Machine
end

