-- ==== Sys2Proof/Certificates/Slice0/Obligations.lean ====
section
/-! DEFINITION. The statements for the provers. Each docstring names the rule of spec/ it formalises. The machine's own
configuration `Config.current` is well formed and otherwise unknown (log 1), so a statement about `exec` holds for every
well-formed choice of the parameters. -/

open Sys2Proof Sys2Proof.Machine

/-! ## Encoding -/

/-- A few words written out from the opcode map (95_test_vectors.md D-E). -/
def Obligations.ListedWordsDecode : Prop :=
  decode 0x0000 = .ok .nop ∧ decode 0x0100 = .ok .getLevel ∧ decode 0x0296 = .ok (.setLevel 150) ∧
  decode 0x0301 = .ok (.increase 1) ∧ decode 0x0401 = .ok (.decrease 1) ∧ decode 0x05A7 = .ok .start ∧
  decode 0x0700 = .ok .shutdown ∧ decode 0x1000 = .ok .fall ∧ decode 0x12FE = .ok (.sample false) ∧
  decode 0x1300 = .ok .tick ∧ decode 0x1500 = .ok .stopExpire ∧ decode 0xFF00 = .ok .reset ∧
  decode 0x2000 = .error (.reservedOpcode 0x20)

/-- The opcode map with every operand value (30_encoding.md R71), the operand of SAMPLE (R73), and the operations without an
operand: `imm` ignored on reading, written as 0x00 (R74). -/
def Obligations.OpcodeMapDecodesEveryOperand : Prop :=
  (∀ imm : Byte,
    decode (0x00#8 ++ imm) = .ok .nop ∧ decode (0x01#8 ++ imm) = .ok .getLevel ∧
    decode (0x02#8 ++ imm) = .ok (.setLevel imm) ∧ decode (0x03#8 ++ imm) = .ok (.increase imm) ∧
    decode (0x04#8 ++ imm) = .ok (.decrease imm) ∧ decode (0x05#8 ++ imm) = .ok .start ∧
    decode (0x06#8 ++ imm) = .ok .stop ∧ decode (0x07#8 ++ imm) = .ok .shutdown ∧
    decode (0x10#8 ++ imm) = .ok .fall ∧ decode (0x11#8 ++ imm) = .ok .rise ∧
    decode (0x12#8 ++ imm) = .ok (.sample (imm.getLsbD 0)) ∧ decode (0x13#8 ++ imm) = .ok .tick ∧
    decode (0x14#8 ++ imm) = .ok .fireExpire ∧ decode (0x15#8 ++ imm) = .ok .stopExpire ∧
    decode (0xFF#8 ++ imm) = .ok .reset) ∧
  (∀ op imm : Byte, op.toNat ∉ [0, 1, 2, 3, 4, 5, 6, 7, 16, 17, 18, 19, 20, 21, 255] →
    decode (op ++ imm) = .error (.reservedOpcode op)) ∧
  (∀ i ∈ [Instr.nop, .getLevel, .start, .stop, .shutdown, .fall, .rise, .tick, .fireExpire, .stopExpire, .reset],
    (encode i).toNat % 256 = 0) ∧
  (∀ v : Byte, [Instr.nop, .getLevel, .setLevel v, .increase v, .decrease v, .start, .stop, .shutdown].map opClass =
    List.replicate 8 OpClass.cmd) ∧
  (∀ b : Bool, [Instr.fall, .rise, .sample b, .tick, .fireExpire, .stopExpire, .reset].map opClass =
    List.replicate 7 OpClass.evt) ∧
  (∀ (v : Byte) (b : Bool),
    [Instr.nop, .getLevel, .setLevel v, .increase v, .decrease v, .start, .stop, .shutdown, .fall, .rise, .sample b, .tick,
      .fireExpire, .stopExpire, .reset].map mnemonic =
    ["NOP", "GET_LEVEL", "SET_LEVEL", "INCREASE", "DECREASE", "START", "STOP", "SHUTDOWN", "FALL", "RISE", "SAMPLE", "TICK",
      "FIRE_EXPIRE", "STOP_EXPIRE", "RESET"])

/-- Decoding what was encoded gives the operation back, with every operand (30_encoding.md sections 1 and 2). -/
def Obligations.DecodeOfEncodeIsIdentity : Prop := ∀ i : Instr, decode (encode i) = .ok i

/-- The other direction: a word decodes to an operation exactly when, its ignored bits cleared, it is that operation's encoding;
each word has at most one meaning and no other bit is dropped. -/
def Obligations.DecodeIffEncodesClearedWord : Prop :=
  ∀ (w : EventWord) (i : Instr), decode w = .ok i ↔ clearIgnored w = encode i

/-- R75: the opcodes 0x08..0x0F and 0x16..0xFE are reserved, and a reserved word has no step: it is refused by name. -/
def Obligations.ReservedWordsAreRefused : Prop :=
  ∀ w : EventWord,
    (decode w = .error (.reservedOpcode (BitVec.ofNat 8 (w.toNat / 256))) ↔
      (8 ≤ w.toNat / 256 ∧ w.toNat / 256 ≤ 15) ∨ (22 ≤ w.toNat / 256 ∧ w.toNat / 256 ≤ 254)) ∧
    ∀ (s : State) (rest : List EventWord), s.trace = w :: rest →
      (8 ≤ w.toNat / 256 ∧ w.toNat / 256 ≤ 15) ∨ (22 ≤ w.toNat / 256 ∧ w.toNat / 256 ≤ 254) →
      step s = .refused (.reservedOpcode (BitVec.ofNat 8 (w.toNat / 256)))

/-- R78: the pseudo-operations, as they are spelled, and the words they expand to; the default step exists only in the text: the
word of an INCREASE or DECREASE always carries its step. -/
def Obligations.PseudoOperationsExpand : Prop :=
  lineOf "INCREASE" none = some .increaseDefault ∧ assemble [.increaseDefault] = [0x0301] ∧
  lineOf "DECREASE" none = some .decreaseDefault ∧ assemble [.decreaseDefault] = [0x0401] ∧
  lineOf "TIMER_EXPIRED" (some 0) = some (.timerExpired 0) ∧ assemble [.timerExpired 0] = [0x1400] ∧
  lineOf "TIMER_EXPIRED" (some 1) = some (.timerExpired 1) ∧ assemble [.timerExpired 1] = [0x1500] ∧
  (∀ n, lineOf "TICK*" (some n) = some (.ticks n) ∧ assemble [.ticks n] = List.replicate n 0x1300) ∧
  ∀ v : Byte,
    assemble [.op (.increase v)] = [0x03#8 ++ v] ∧ decode (0x03#8 ++ v) = .ok (.increase v) ∧
    assemble [.op (.decrease v)] = [0x04#8 ++ v] ∧ decode (0x04#8 ++ v) = .ok (.decrease v)

/-- The textual syntax (30_encoding.md section 5): the mnemonic and the operand of an operation spell a line that stands for
that operation alone. -/
def Obligations.TextOfOperationReadsBack : Prop :=
  ∀ i : Instr, ∃ l, lineOf (mnemonic i) (textOperand i) = some l ∧ expand l = [i]

/-! ## The step -/

/-- A step runs the operation that the environment's next word spells, on the state in which that word has been taken; a reserved
word is refused; with no word to come the step is the idle word NOP (the model's choice, log 4). -/
def Obligations.StepRunsTheDecodedOperation : Prop :=
  (∀ (s : State) (w : EventWord) (rest : List EventWord) (i : Instr), s.trace = w :: rest → decode w = .ok i →
    step s = exec i { s with trace := rest }) ∧
  (∀ (s : State) (w : EventWord) (rest : List EventWord) (op : Byte), s.trace = w :: rest →
    decode w = .error (.reservedOpcode op) → step s = .refused (.reservedOpcode op)) ∧
  (∀ s : State, s.trace = [] → step s = .next s)

/-- A placed word is the very next to run, on the state it was placed in (the model's interface, log 3). -/
def Obligations.PlacedWordRunsNext : Prop :=
  ∀ (s : State) (nbits w : Nat) (i : Instr), decodeTableWord nbits w = some i →
    step (s.withFetchWord nbits w) = exec i s

/-- R170: no operation has an error outcome; in every state and for every operand value it has a next state. A step stops only
on a reserved word, by refusing it (R75). -/
def Obligations.EveryOperationIsTotal : Prop :=
  (∀ (i : Instr) (s : State), ∃ t, exec i s = .next t) ∧
  (∀ (s : State) (f : Fault), step s ≠ .fault f) ∧
  (∀ (s : State) (r : Refusal), step s = .refused r →
    ∃ op, r = .reservedOpcode op ∧ decode (fetchWord s) = .error (.reservedOpcode op))

/-! ## The interpolator -/

/-- R91, R94 and R96 as written. For every configuration with a reference to divide by and every level: the table's word, the
exact product, which fits 32 unsigned bits, then the truncated quotient, and the difference over the integers. For a well-formed
one also R91's ends and order of the table, and R96's register: FireDelay is stored in `fd` without wrap-around. -/
def Obligations.InterpolatorComputesAsWritten : Prop :=
  (∀ (c : Config) (L : Level), 1 ≤ c.refHalfPeriodUsec →
    lookup c L = c.table[L.val] ∧
    scaled c L = (lookup c L).toNat * c.halfPeriodUsec / c.refHalfPeriodUsec ∧
    (c.halfPeriodUsec ≤ 65535 → (lookup c L).toNat * c.halfPeriodUsec < 2 ^ 32) ∧
    fireDelay c L =
      (c.halfPeriodUsec : Int) - (((lookup c L).toNat * c.halfPeriodUsec / c.refHalfPeriodUsec : Nat) : Int) -
        c.sensorLagUsec) ∧
  ∀ c : Config, c.wf = true →
    lookup c 0 = 0 ∧ (lookup c 100).toNat = c.refHalfPeriodUsec ∧
    ∀ L : Level, (fdValue c L).toInt = fireDelay c L ∧ ∀ M : Level, L ≤ M → lookup c L ≤ lookup c M

/-- R95 items 1 to 5, for every well-formed configuration. -/
def Obligations.ScaledIsMonotoneWithExactEnds : Prop :=
  ∀ c : Config, c.wf = true →
    scaled c 0 = 0 ∧ scaled c 100 = c.halfPeriodUsec ∧
    (∀ L M : Level, L ≤ M → scaled c L ≤ scaled c M) ∧
    (∀ L : Level, scaled c L ≤ c.halfPeriodUsec ∧ scaled c L ≤ 65535) ∧
    (c.halfPeriodUsec = c.refHalfPeriodUsec → ∀ L : Level, scaled c L = (lookup c L).toNat)

/-- R97 items 1 to 4, for every well-formed configuration: a higher level fires earlier, the two end points, and a positive
delay at the levels that arm a timer. -/
def Obligations.FireDelayFallsWithTheLevel : Prop :=
  ∀ c : Config, c.wf = true →
    (∀ L M : Level, L ≤ M → fireDelay c M ≤ fireDelay c L) ∧
    fireDelay c 0 = (c.halfPeriodUsec : Int) - c.sensorLagUsec ∧
    fireDelay c 100 = -(c.sensorLagUsec : Int) ∧
    (∀ L : Level, 1 ≤ L.val → L.val ≤ 99 → 1 ≤ fireDelay c L ∧ fireDelay c L ≤ c.halfPeriodUsec)

/-- R97 item 5 claims a strict bound, `FireDelay(1) < HALF_PERIOD_USEC`. It is expected to FAIL: a table whose entry 1 is 0
with a lag of 0 is well formed and gives equality. -/
def Obligations.LargestArmedDelayBelowHalfPeriod : Prop :=
  ∀ c : Config, c.wf = true → fireDelay c 1 < c.halfPeriodUsec

/-- R96: the register `fd` holds FireDelay, computed over the signed integers, without wrap-around; and its range (R22). -/
def Obligations.DelayRegisterHoldsFireDelay : Prop :=
  ∀ c : Config, c.wf = true → ∀ L : Level,
    (fdValue c L).toInt = (c.halfPeriodUsec : Int) - scaled c L - c.sensorLagUsec ∧ -(c.sensorLagUsec : Int) ≤ (fdValue c L).toInt ∧
    (fdValue c L).toInt ≤ c.halfPeriodUsec

/-- R12 item 3 is one inequality, given items 1 and 2. -/
def Obligations.LagConditionIsOneInequality : Prop :=
  ∀ c : Config, c.tableEndsOk = true → c.tableMonotone = true → c.refOk = true → c.halfPeriodOk = true →
    (c.lagOk = true ↔ (c.sensorLagUsec : Int) ≤ (c.halfPeriodUsec : Int) - scaled c 99 - 1)

/-- The configurations of 95_test_vectors.md are well formed, and 530 and 637 are the largest lags that keep them so
(00_scope.md section 4). -/
def Obligations.DefaultTableConfigurationsWellFormed : Prop :=
  ∀ lag : Nat, (({ Config.c60 with sensorLagUsec := lag } : Config).wf = true ↔ lag ≤ 530) ∧
    (({ Config.c50 with sensorLagUsec := lag } : Config).wf = true ↔ lag ≤ 637)

/-! ## Level commands -/

/-- R145: NOP changes no state and gives no answer. -/
def Obligations.NopChangesNothing : Prop :=
  decode 0x0000 = .ok .nop ∧ ∀ s : State, exec .nop s = .next s ∧ answerOf .nop s = none

/-- R141: GET_LEVEL answers the level on `rdata`, an output of its step (R34), writes nothing, and works also while `run = 0`. -/
def Obligations.GetLevelAnswersTheLevel : Prop :=
  decode 0x0100 = .ok .getLevel ∧
  ∀ s : State, exec .getLevel s = .next s ∧ answerOf .getLevel s = some s.lvl ∧
    ∀ c : Config, outPorts c .getLevel s = some { rdata := some s.lvl, gateOut := gateOut c s }

/-- R142: SET_LEVEL clamps and writes `lvl` and `fd` together and nothing else; it is idempotent. -/
def Obligations.SetLevelWritesLevelAndDelay : Prop :=
  ∀ (v : Byte) (s : State),
    decode (0x02#8 ++ v) = .ok (.setLevel v) ∧
    exec (.setLevel v) s = .next
      (if s.run = true then
        { s with lvl := BitVec.ofNat 8 (min v.toNat 100), fd := fdValue Config.current (clampLevel v.toNat) }
      else s) ∧
    ∀ t, exec (.setLevel v) s = .next t → exec (.setLevel v) t = .next t

/-- R143: INCREASE does nothing at 100, otherwise it is SET_LEVEL of the sum, formed without wrap-around and clamped. -/
def Obligations.IncreaseSaturatesAtHundred : Prop :=
  ∀ (v : Byte) (s : State),
    decode (0x03#8 ++ v) = .ok (.increase v) ∧
    exec (.increase v) s = .next
      (if s.run = true ∧ s.lvl.toNat ≠ 100 then
        { s with
          lvl := BitVec.ofNat 8 (min (s.lvl.toNat + v.toNat) 100)
          fd := fdValue Config.current (clampLevel (s.lvl.toNat + v.toNat)) }
      else s)

/-- R144: DECREASE does nothing at 0, otherwise it is SET_LEVEL of the difference, which saturates at 0 (in a state with a level
above 100, which no run reaches, SET_LEVEL clamps it: log 14). -/
def Obligations.DecreaseSaturatesAtZero : Prop :=
  ∀ (v : Byte) (s : State),
    decode (0x04#8 ++ v) = .ok (.decrease v) ∧
    exec (.decrease v) s = .next
      (if s.run = true ∧ s.lvl.toNat ≠ 0 then
        { s with
          lvl := BitVec.ofNat 8 (min (if v.toNat ≥ s.lvl.toNat then 0 else s.lvl.toNat - v.toNat) 100)
          fd := fdValue Config.current (clampLevel (if v.toNat ≥ s.lvl.toNat then 0 else s.lvl.toNat - v.toNat)) }
      else s)

/-- R146 item 3: the no-op tests of INCREASE and DECREASE are not observable: each equals SET_LEVEL of the saturated result, in
every state that keeps the invariants of `lvl` and `fd` (10_state.md R21, R22). -/
def Obligations.StepCommandsEqualSetLevel : Prop :=
  ∀ (v : Byte) (s : State), s.lvl.toNat ≤ 100 → s.fd = fdValue Config.current (clampLevel s.lvl.toNat) →
    exec (.increase v) s = exec (.setLevel (BitVec.ofNat 8 (min (s.lvl.toNat + v.toNat) 100))) s ∧
    exec (.decrease v) s = exec (.setLevel (BitVec.ofNat 8 (s.lvl.toNat - v.toNat))) s

/-- The frame of the level commands (43_level.md R142 "Never written", R146 item 4): output, both timers, `run`, `zc_prev`, the
environment's words and the free values are left alone. -/
def Obligations.LevelCommandsLeaveTimersAndOutput : Prop :=
  ∀ (i : Instr) (s : State), isLevelCommand i = true →
    ∃ t, exec i s = .next t ∧ t.out = s.out ∧ t.fire = s.fire ∧ t.stop = s.stop ∧ t.run = s.run ∧ t.zcPrev = s.zcPrev ∧
      t.trace = s.trace ∧ t.freeSeq = s.freeSeq

/-- R146 item 4: the level commands commute with TICK, RISE, the expiries, START and STOP: both orders end in the same state and
give the same answers. -/
def Obligations.LevelCommandsCommute : Prop :=
  ∀ (l e : Instr) (s : State), isLevelCommand l = true →
    e ∈ [Instr.tick, .rise, .fireExpire, .stopExpire, .start, .stop] →
    (∃ t, runOps [l, e] s = .next t ∧ runOps [e, l] s = .next t) ∧ answersOf [l, e] s = answersOf [e, l] s

/-- R204: a level change takes effect at the next FALL, not before: the timers and the output stay as they are, and the next
FALL arms FireDelay of the new level. -/
def Obligations.LevelChangeTakesEffectAtNextFall : Prop :=
  ∀ (v : Byte) (s : State), s.run = true → 1 ≤ v.toNat → v.toNat ≤ 99 →
    ∃ t u, exec (.setLevel v) s = .next t ∧ t.fire = s.fire ∧ t.stop = s.stop ∧ t.out = s.out ∧
      exec .fall t = .next u ∧ u.fire.pending = true ∧
      (u.fire.cnt.toNat : Int) = fireDelay Config.current (clampLevel v.toNat) ∧ u.out = s.out

/-! ## Edges -/

/-- R113: FALL at level 100 and 0 forces the output and cancels the fire timer, at any other level it arms the fire channel
with `max(fd, 1)`; everything else is left alone. Of the count in a state whose `fd` exceeds the counter, which no run reaches
and the rule does not speak of, nothing is said. -/
def Obligations.FallArmsOrForces : Prop :=
  decode 0x1000 = .ok .fall ∧ ∀ s : State, ∃ n : Count,
    (s.fd.toInt ≤ 65535 → (n.toNat : Int) = max s.fd.toInt 1) ∧
    exec .fall s = .next
      (if s.run = false then s
      else if s.lvl.toNat = 100 then { s with fire := { s.fire with pending := false }, out := true }
      else if s.lvl.toNat = 0 then { s with fire := { s.fire with pending := false }, out := false }
      else { s with fire := { pending := true, cnt := n } })

/-- R114: RISE arms the stop channel with STOP_DELAY_USEC (half the half-period), whatever the level and the output. -/
def Obligations.RiseArmsTheStopTimer : Prop :=
  decode 0x1100 = .ok .rise ∧ ∀ s : State,
    exec .rise s = .next
      (if s.run = false then s
      else
        { s with
          stop := { pending := true, cnt := BitVec.ofNat 16 (Config.current.halfPeriodUsec / 2) } })

/-- R111: SAMPLE records the line; high then low is a FALL and low then high a RISE, in the same step; an equal sample changes
nothing. -/
def Obligations.SampleDetectsTheEdges : Prop :=
  decode 0x1200 = .ok (.sample false) ∧ decode 0x1201 = .ok (.sample true) ∧ ∀ (b : Bool) (s : State),
    exec (.sample b) s =
      (if s.run = false then .next s
      else if s.zcPrev = true ∧ b = false then exec .fall { s with zcPrev := b }
      else if s.zcPrev = false ∧ b = true then exec .rise { s with zcPrev := b }
      else .next s) ∧
    ∃ t, exec (.sample b) s = .next t

/-- R115: an edge whose channel is pending replaces the timer. What the channel held before does not matter; it is loaded with
the new delay, after any edges of its kind and TICKs before; a burst of edges equals its last; and no expiry comes before the
new delay has run, so the old timer never expires. -/
def Obligations.EdgeReplacesItsPendingTimer : Prop :=
  (∀ (s : State) (x : Channel), s.run = true → s.lvl.toNat ≠ 0 → s.lvl.toNat ≠ 100 →
    exec .fall { s with fire := x } = exec .fall s) ∧
  (∀ (s : State) (x : Channel), s.run = true → exec .rise { s with stop := x } = exec .rise s) ∧
  (∀ (s : State) (n : Nat), runOps (List.replicate (n + 1) .fall) s = exec .fall s ∧
    runOps (List.replicate (n + 1) .rise) s = exec .rise s) ∧
  (∀ (is : List Instr) (s : State), s.run = true → s.lvl.toNat ≠ 0 → s.lvl.toNat ≠ 100 → s.fd.toInt ≤ 65535 →
    (∀ i ∈ is, i = .fall ∨ i = .tick) →
    ∃ t, runOps (is ++ [.fall]) s = .next t ∧ t.fire.pending = true ∧ (t.fire.cnt.toNat : Int) = max s.fd.toInt 1 ∧
      (s.stop.pending = false → ∀ k < t.fire.cnt.toNat,
        ∃ u, runOps (List.replicate k .tick) t = .next u ∧ u.fire.pending = true ∧ u.out = t.out)) ∧
  ∀ (is : List Instr) (s : State), s.run = true → (∀ i ∈ is, i = .rise ∨ i = .tick) →
    ∃ t, runOps (is ++ [.rise]) s = .next t ∧ t.stop.pending = true ∧
      t.stop.cnt.toNat = Config.current.stopDelayUsec ∧
      ∀ k < t.stop.cnt.toNat, ∃ u, runOps (List.replicate k .tick) t = .next u ∧ u.stop.pending = true

/-! ## Timers -/

/-- R121: ARM makes the channel pending with the count `max(d, 1)`, whatever it held, and writes nothing else; every delay of the
machine's configuration that is armed is loaded as it is. -/
def Obligations.ArmLoadsAtLeastOne : Prop :=
  (∀ (d : Int) (s : State), d ≤ 65535 →
    (∃ n : Count, (n.toNat : Int) = max d 1 ∧ arm .fire d s = { s with fire := { pending := true, cnt := n } }) ∧
    (∃ n : Count, (n.toNat : Int) = max d 1 ∧ arm .stop d s = { s with stop := { pending := true, cnt := n } })) ∧
  (∀ L : Level, 1 ≤ L.val → L.val ≤ 99 →
    ((armCount (fdValue Config.current L).toInt).toNat : Int) = fireDelay Config.current L) ∧
  (armCount (Config.current.stopDelayUsec : Int)).toNat = Config.current.halfPeriodUsec / 2

/-- Who ends a timer: a channel stops being pending only by an operation that the table of R122 lists for it, by its expiry
(R123, R125, R126), or by RESET (70_reset_and_hazards.md R190). -/
def Obligations.OnlyListedOperationsCancel : Prop :=
  ∀ (i : Instr) (s t : State), exec i s = .next t →
    (s.fire.pending = true → t.fire.pending = false →
      i = .start ∨ i = .stop ∨ i = .shutdown ∨ i = .reset ∨ i = .fireExpire ∨
      (i = .tick ∧ channelDue s.fire = true) ∨
      ((i = .fall ∨ (i = .sample false ∧ s.zcPrev = true)) ∧ (s.lvl.toNat = 0 ∨ s.lvl.toNat = 100)) ∨
      (Config.current.stopExpiryCancelsFire = true ∧
        ((i = .stopExpire ∧ s.stop.pending = true) ∨ (i = .tick ∧ channelDue s.stop = true)))) ∧
    (s.stop.pending = true → t.stop.pending = false →
      i = .shutdown ∨ i = .reset ∨ i = .stopExpire ∨ (i = .tick ∧ channelDue s.stop = true))

/-- R122: a channel that is not pending never expires until it is armed again: no TICK and no expiry word makes it pending or
counts it, over any sequence of operations without an arming edge. -/
def Obligations.CancelledTimerNeverExpires : Prop :=
  (∀ (is : List Instr) (s : State), s.fire.pending = false → (∀ i ∈ is, i ≠ .fall ∧ i ≠ .sample false) →
    ∃ t, runOps is s = .next t ∧ t.fire.pending = false) ∧
  (∀ (is : List Instr) (s : State), s.stop.pending = false → (∀ i ∈ is, i ≠ .rise ∧ i ≠ .sample true) →
    ∃ t, runOps is s = .next t ∧ t.stop.pending = false) ∧
  (∀ s : State, s.fire.pending = false → exec .fireExpire s = .next s) ∧
  (∀ s : State, s.stop.pending = false → exec .stopExpire s = .next s)

/-- R123: TICK counts both channels from the state before it, then runs the expiries of those that fell due; with both due they run
one after the other in one of the two orders. -/
def Obligations.TickCountsThenExpires : Prop :=
  decode 0x1300 = .ok .tick ∧ ∀ s : State,
    let due := fun ch : Channel => ch.pending = true ∧ ch.cnt.toNat ≤ 1
    let down := fun ch : Channel =>
      if ch.pending = true ∧ 1 < ch.cnt.toNat then { ch with cnt := BitVec.ofNat 16 (ch.cnt.toNat - 1) } else ch
    let cancels := Config.current.stopExpiryCancelsFire
    (s.run = false → exec .tick s = .next s) ∧
    (s.run = true → ¬ due s.fire → ¬ due s.stop →
      exec .tick s = .next { s with fire := down s.fire, stop := down s.stop }) ∧
    (s.run = true → due s.fire → ¬ due s.stop →
      exec .tick s = .next
        { s with fire := { s.fire with pending := false }, stop := down s.stop, out := true }) ∧
    (s.run = true → ¬ due s.fire → due s.stop →
      exec .tick s = .next
        { s with
          fire := if cancels = true then { down s.fire with pending := false } else down s.fire
          stop := { s.stop with pending := false }
          out := false }) ∧
    (s.run = true → due s.fire → due s.stop →
      ∃ (order : ExpiryOrder) (n : Nat), exec .tick s = .next
        { s with
          fire := { s.fire with pending := false }
          stop := { s.stop with pending := false }
          out := match order with
            | .fireFirst => false
            | .stopFirst => !cancels
          freeSeq := n })

/-- With both channels due (R128), for every configuration: `fire_first` ends de-asserted and `stop_first` ends asserted, but
under STOP_EXPIRY_CANCELS_FIRE (R127), where the fire channel does not expire, de-asserted. That the order is read at the counter
of free values, which advances, is the model's choice (log 7). TICK is this function of the machine's configuration. -/
def Obligations.ExpiryOrderDecidesTheOutput : Prop :=
  (∀ (c : Config) (s : State), s.run = true → channelDue s.fire = true → channelDue s.stop = true →
    (tickOn c s).fire.pending = false ∧ (tickOn c s).stop.pending = false ∧
    (c.expiryOrder s.freeSeq = .fireFirst → (tickOn c s).out = false) ∧
    (c.expiryOrder s.freeSeq = .stopFirst → (tickOn c s).out = !c.stopExpiryCancelsFire) ∧
    (tickOn c s).freeSeq = s.freeSeq + 1) ∧
  ∀ s : State, exec .tick s = .next (tickOn Config.current s)

/-- R125: FIRE_EXPIRE with the fire channel pending clears it and asserts the output; otherwise it has no effect. -/
def Obligations.FireExpireAssertsWhenPending : Prop :=
  decode 0x1400 = .ok .fireExpire ∧ ∀ s : State,
    exec .fireExpire s = .next
      (if s.run = true ∧ s.fire.pending = true then
        { s with fire := { s.fire with pending := false }, out := true }
      else s)

/-- R126 and R127: STOP_EXPIRE with the stop channel pending clears it and de-asserts the output, and cancels the fire timer
exactly under STOP_EXPIRY_CANCELS_FIRE; otherwise it has no effect. -/
def Obligations.StopExpireDeassertsWhenPending : Prop :=
  decode 0x1500 = .ok .stopExpire ∧ ∀ s : State,
    exec .stopExpire s = .next
      (if s.run = true ∧ s.stop.pending = true then
        { s with
          stop := { s.stop with pending := false }
          fire := if Config.current.stopExpiryCancelsFire = true then { s.fire with pending := false } else s.fire
          out := false }
      else s)

/-- The timing law (42_timer.md section 3, "The timing law") for the stop channel: over any operations that do not disturb it, it
stays pending and counts the TICKs; its expiry runs inside the TICK that its count announces, and not before. -/
def Obligations.StopTimerExpiresExactlyOnTime : Prop :=
  ∀ (is : List Instr) (s : State), s.run = true → s.stop.pending = true →
    undisturbed Config.current .stop is s → ticksIn is < s.stop.cnt.toNat →
    ∃ t, runOps is s = .next t ∧ t.run = true ∧ t.stop.pending = true ∧
      t.stop.cnt.toNat = s.stop.cnt.toNat - ticksIn is ∧
      (ticksIn is + 1 = s.stop.cnt.toNat →
        ∃ u, exec .tick t = .next u ∧ u.stop.pending = false ∧ (channelDue t.fire = false → u.out = false))

/-- The timing law for the fire channel. -/
def Obligations.FireTimerExpiresExactlyOnTime : Prop :=
  ∀ (is : List Instr) (s : State), s.run = true → s.fire.pending = true →
    undisturbed Config.current .fire is s → ticksIn is < s.fire.cnt.toNat →
    ∃ t, runOps is s = .next t ∧ t.run = true ∧ t.fire.pending = true ∧
      t.fire.cnt.toNat = s.fire.cnt.toNat - ticksIn is ∧
      (ticksIn is + 1 = s.fire.cnt.toNat →
        ∃ u, exec .tick t = .next u ∧ u.fire.pending = false ∧ (channelDue t.stop = false → u.out = true))

/-- The intended cycle at a level 1..99 (41_zero_cross.md R117): OFF, AWAITING_FIRE, ON exactly `fd` ticks after the FALL,
AWAITING_SAFE_STOP, and OFF exactly STOP_DELAY_USEC ticks after the RISE. -/
def Obligations.IntendedCycleReturnsToOff : Prop :=
  ∀ s : State, Inv Config.current s → s.run = true → 1 ≤ s.lvl.toNat → s.lvl.toNat ≤ 99 →
    triple s = (false, false, false) →
    ∃ a b c d, exec .fall s = .next a ∧ triple a = (false, true, false) ∧
      (∀ k < s.fd.toInt.toNat, ∃ x, runOps (List.replicate k .tick) a = .next x ∧ triple x = (false, true, false)) ∧
      runOps (List.replicate s.fd.toInt.toNat .tick) a = .next b ∧ triple b = (true, false, false) ∧
      exec .rise b = .next c ∧ triple c = (true, false, true) ∧
      (∀ k < Config.current.stopDelayUsec,
        ∃ x, runOps (List.replicate k .tick) c = .next x ∧ triple x = (true, false, true)) ∧
      runOps (List.replicate Config.current.stopDelayUsec .tick) c = .next d ∧ triple d = (false, false, false) ∧
      stateLabel s = .off ∧ stateLabel a = .awaitingFire ∧ stateLabel b = .on ∧ stateLabel c = .awaitingSafeStop ∧
      stateLabel d = .off

/-! ## Output and overrides -/

/-- R152: START cancels the fire timer and asserts the output, at every level; nothing else. -/
def Obligations.StartAssertsAndCancelsFire : Prop :=
  decode 0x0500 = .ok .start ∧ ∀ s : State,
    exec .start s = .next
      (if s.run = true then { s with fire := { s.fire with pending := false }, out := true }
      else s)

/-- R153: STOP cancels the fire timer and de-asserts the output; the stop timer and everything else is left alone. -/
def Obligations.StopDeassertsAndKeepsStopTimer : Prop :=
  decode 0x0600 = .ok .stop ∧ ∀ s : State,
    exec .stop s = .next
      (if s.run = true then { s with fire := { s.fire with pending := false }, out := false }
      else s)

/-- R154: START and STOP are the fast paths of FALL, the last of several decides (so each is idempotent), and the cancel is
complete when the operation ends: a TICK placed after it cannot expire the cancelled timer. -/
def Obligations.LastOverrideDecides : Prop :=
  (∀ s : State, s.lvl.toNat = 100 → exec .fall s = exec .start s) ∧
  (∀ s : State, s.lvl.toNat = 0 → exec .fall s = exec .stop s) ∧
  (∀ (is : List Instr) (s : State), (∀ i ∈ is, i = .start ∨ i = .stop) →
    runOps (is ++ [.start]) s = exec .start s ∧ runOps (is ++ [.stop]) s = exec .stop s) ∧
  ∀ s : State, s.run = true → ∀ i ∈ [Instr.start, .stop], ∃ t u, exec i s = .next t ∧ exec .tick t = .next u ∧
    t.fire.pending = false ∧ u.fire.pending = false ∧ (channelDue s.stop = false → u.out = t.out)

/-- R155: SHUTDOWN cancels both timers, forces the output off and ends the run; `lvl`, `fd`, `zc_prev` keep their values. -/
def Obligations.ShutdownForcesOffAndEnds : Prop :=
  decode 0x0700 = .ok .shutdown ∧ ∀ s : State,
    exec .shutdown s = .next
      (if s.run = true then
        { s with
          fire := { s.fire with pending := false }
          stop := { s.stop with pending := false }
          out := false
          run := false }
      else s)

/-- R156: while `run = 0` every operation but RESET leaves every field as it is, and GET_LEVEL still answers; so the block stays
dead over any operations without RESET; after SHUTDOWN the output stays de-asserted and no timer is pending until RESET, which
makes it live. -/
def Obligations.DeadBlockStaysDeadUntilReset : Prop :=
  (∀ (i : Instr) (s : State), s.run = false → i ≠ .reset →
    exec i s = .next s ∧ answerOf i s = if i = .getLevel then some s.lvl else none) ∧
  (∀ (is : List Instr) (s : State), s.run = false → .reset ∉ is → ∃ t, runOps is s = .next t ∧ sameBlock s t) ∧
  (∀ (is : List Instr) (s : State), s.run = true → .reset ∉ is → ∃ t, runOps (.shutdown :: is) s = .next t ∧
    t.run = false ∧ t.out = false ∧ t.fire.pending = false ∧ t.stop.pending = false) ∧
  ∀ s : State, ∃ t, exec .reset s = .next t ∧ t.run = true

/-- R151: the pin is a function of `out` alone, and RESET leaves it de-asserted. -/
def Obligations.GatePinFollowsTheOutput : Prop :=
  (∀ (c : Config) (s : State), c.outActiveHigh = true → gateOut c s = s.out) ∧
  (∀ (c : Config) (s : State), c.outActiveHigh = false → gateOut c s = !s.out) ∧
  ∀ s t : State, exec .reset s = .next t → gateOut Config.current t = !Config.current.outActiveHigh

/-- R157 items 1 and 2: what can assert the output and what can de-assert it, over all operations. -/
def Obligations.OutputChangesOnlyByListedPaths : Prop :=
  ∀ (i : Instr) (s t : State), exec i s = .next t →
    (s.out = false → t.out = true →
      ((i = .fall ∨ (i = .sample false ∧ s.zcPrev = true)) ∧ s.lvl.toNat = 100) ∨
      (i = .fireExpire ∧ s.fire.pending = true) ∨ (i = .tick ∧ channelDue s.fire = true) ∨ i = .start) ∧
    (s.out = true → t.out = false →
      ((i = .fall ∨ (i = .sample false ∧ s.zcPrev = true)) ∧ s.lvl.toNat = 0) ∨
      (i = .stopExpire ∧ s.stop.pending = true) ∨ (i = .tick ∧ channelDue s.stop = true) ∨
      i = .stop ∨ i = .shutdown ∨ i = .reset)

/-- R157 item 3: at level 0, from an output that is off with no fire timer pending, no edges and ticks ever assert it. -/
def Obligations.LevelZeroNeverAsserts : Prop :=
  ∀ (is : List Instr) (s : State), s.out = false → s.fire.pending = false → s.lvl.toNat = 0 →
    (∀ i ∈ is, isEdgeOrTick i = true) →
    ∃ t, runOps is s = .next t ∧ t.out = false ∧ t.fire.pending = false ∧ t.lvl = s.lvl

/-! ## Frames and whole-machine rules -/

/-- The column "written by" of 10_state.md R20, for all nine fields over all operations (a SAMPLE that is an edge writes what its
FALL or RISE does, and TICK what the expiry it runs does). Only GET_LEVEL answers (43_level.md R141). That no operation touches
the environment's words is the model's own (log 3), as is the fresh count of RESET (log 8). -/
def Obligations.FieldsAreWrittenOnlyByTheirWriters : Prop :=
  ∀ (i : Instr) (s t : State), exec i s = .next t →
    let falls := i = .fall ∨ (i = .sample false ∧ s.zcPrev = true)
    let rises := i = .rise ∨ (i = .sample true ∧ s.zcPrev = false)
    let fireExpires := i = .fireExpire ∨ (i = .tick ∧ channelDue s.fire = true)
    let stopExpires := i = .stopExpire ∨ (i = .tick ∧ channelDue s.stop = true)
    ((t.lvl ≠ s.lvl ∨ t.fd ≠ s.fd) → (∃ v, i = .setLevel v ∨ i = .increase v ∨ i = .decrease v) ∨ i = .reset) ∧
    (t.out ≠ s.out →
      (falls ∧ (s.lvl.toNat = 0 ∨ s.lvl.toNat = 100)) ∨ fireExpires ∨ stopExpires ∨
      i = .start ∨ i = .stop ∨ i = .shutdown ∨ i = .reset) ∧
    (t.fire.pending ≠ s.fire.pending →
      falls ∨ fireExpires ∨ i = .start ∨ i = .stop ∨ i = .shutdown ∨ i = .reset ∨
      (stopExpires ∧ Config.current.stopExpiryCancelsFire = true)) ∧
    (s.fire.pending = false → t.fire.pending = true → falls) ∧
    (t.fire.cnt ≠ s.fire.cnt → falls ∨ i = .tick ∨ i = .reset) ∧
    (t.stop.pending ≠ s.stop.pending → rises ∨ stopExpires ∨ i = .shutdown ∨ i = .reset) ∧
    (s.stop.pending = false → t.stop.pending = true → rises) ∧
    (t.stop.cnt ≠ s.stop.cnt → rises ∨ i = .tick ∨ i = .reset) ∧
    (t.run ≠ s.run → (i = .shutdown ∧ t.run = false) ∨ (i = .reset ∧ t.run = true)) ∧
    (t.zcPrev ≠ s.zcPrev → (∃ b, i = .sample b) ∨ i = .reset) ∧
    (answerOf i s ≠ none → i = .getLevel) ∧
    t.trace = s.trace

/-- The channels never interfere (42_timer.md R120): the operations of one channel leave the other's flag and count alone, and
none of them writes `lvl`, `fd`, `run` or `zc_prev` (the option of R127 apart). -/
def Obligations.ChannelsDoNotInterfere : Prop :=
  ∀ s : State,
    (∀ i ∈ [Instr.fall, .start, .stop, .fireExpire], ∃ t, exec i s = .next t ∧ t.stop = s.stop ∧
      t.lvl = s.lvl ∧ t.fd = s.fd ∧ t.run = s.run ∧ t.zcPrev = s.zcPrev ∧ t.freeSeq = s.freeSeq) ∧
    (∃ t, exec .rise s = .next t ∧ t.fire = s.fire ∧ t.out = s.out ∧
      t.lvl = s.lvl ∧ t.fd = s.fd ∧ t.run = s.run ∧ t.zcPrev = s.zcPrev ∧ t.freeSeq = s.freeSeq) ∧
    (∃ t, exec .stopExpire s = .next t ∧ t.fire.cnt = s.fire.cnt ∧
      (Config.current.stopExpiryCancelsFire = false → t.fire = s.fire) ∧
      t.lvl = s.lvl ∧ t.fd = s.fd ∧ t.run = s.run ∧ t.zcPrev = s.zcPrev ∧ t.freeSeq = s.freeSeq) ∧
    (∃ t, exec .tick s = .next t ∧ t.lvl = s.lvl ∧ t.fd = s.fd ∧ t.run = s.run ∧ t.zcPrev = s.zcPrev)

/-- 10_state.md R27: no operation reads the count of an idle channel: states that differ only in such counts step alike. -/
def Obligations.IdleCountsAreNeverRead : Prop :=
  (∀ (i : Instr) (s t : State), sameButIdleCounts s t →
    ∃ s' t', exec i s = .next s' ∧ exec i t = .next t' ∧ sameButIdleCounts s' t') ∧
  (∀ s t : State, sameButIdleCounts s t →
    (∃ s' t', step s = .next s' ∧ step t = .next t' ∧ sameButIdleCounts s' t') ∨
    ∃ r, step s = .refused r ∧ step t = .refused r)

/-- What never steers the block: the words to come, which no operation reads (log 3), and the answer, which is an output of its
step and no state (10_state.md R34): it depends on the operation and the level alone. -/
def Obligations.AnswerAndTraceAreNeverRead : Prop :=
  (∀ (i : Instr) (s : State) (ws : List EventWord),
    ∃ t, exec i s = .next t ∧ exec i { s with trace := ws } = .next { t with trace := ws }) ∧
  (∀ (i : Instr) (s t : State), s.lvl = t.lvl → answerOf i s = answerOf i t) ∧
  ∀ (s : State) (ws : List EventWord), stepAnswer { s with trace := fetchWord s :: ws } = stepAnswer s

/-! ## Reset and invariants -/

/-- R190: RESET acts in every state and makes its seven writes; the two counts are free values, of which nothing is said,
nor of the model's own counter of them (log 8). -/
def Obligations.ResetConstructsTheBlock : Prop :=
  decode 0xFF00 = .ok .reset ∧ ∀ s : State, ∃ (n m : Count) (k : Nat),
    exec .reset s = .next
      { s with
        lvl := 75
        fd := fdValue Config.current 75
        out := false
        fire := { pending := false, cnt := n }
        stop := { pending := false, cnt := m }
        run := true
        zcPrev := decide (Config.current.zcPull = .up)
        freeSeq := k }

/-- R36: the state after reset, its label OFF (the counts, which the rule leaves unspecified, and the model's own fields are not
spoken of). -/
def Obligations.ResetStateHasTheGivenValues : Prop :=
  State.reset.lvl = 75 ∧ State.reset.fd.toInt = fireDelay Config.current 75 ∧ State.reset.out = false ∧
  State.reset.fire.pending = false ∧ State.reset.stop.pending = false ∧ State.reset.run = true ∧
  (State.reset.zcPrev = true ↔ Config.current.zcPull = .up) ∧ stateLabel State.reset = .off

/-- 10_state.md R29 at reset. -/
def Obligations.ResetMeetsTheInvariants : Prop := Inv Config.current State.reset

/-- 10_state.md R29: every step keeps the five invariants of the reachable states, from every state that has them. -/
def Obligations.StepKeepsTheInvariants : Prop :=
  ∀ s t : State, Inv Config.current s → step s = .next t → Inv Config.current t

/-- 10_state.md R32: all eight sequencing triples are reached from reset. The label of each is that of the total label function
(R32's last sentence, 92_eei_decisions.md D27), also for the three triples to which the table gives none. -/
def Obligations.EveryTripleIsReachable : Prop :=
  ∀ o f p : Bool, ∃ (is : List Instr) (t : State), runOps is State.reset = .next t ∧ t.run = true ∧ triple t = (o, f, p) ∧
    stateLabel t = (if p = true then .awaitingSafeStop else if f = true then .awaitingFire else if o = true then .on else .off)

/-! ## Hazards -/

/-- 70_reset_and_hazards.md R205: SET_LEVEL 0 does not cancel a pending fire timer; its expiry asserts the output at level 0. -/
def Obligations.LevelZeroKeepsAPendingFireTimer : Prop :=
  ∀ s : State, s.run = true → s.fire.pending = true → 1 ≤ s.fire.cnt.toNat → s.stop.pending = false →
    ∃ t, runOps (.setLevel 0 :: List.replicate s.fire.cnt.toNat .tick) s = .next t ∧ t.lvl = 0 ∧ t.out = true

/-- 70_reset_and_hazards.md R206: a stop timer left from an earlier RISE de-asserts an output that START asserted after it, when it
expires and not before. -/
def Obligations.StaleStopTimerDeassertsAStart : Prop :=
  ∀ s : State, s.run = true → s.stop.pending = true → 1 ≤ s.stop.cnt.toNat →
    (∀ k < s.stop.cnt.toNat, ∃ t, runOps (.start :: List.replicate k .tick) s = .next t ∧ t.out = true) ∧
    ∃ t, runOps (.start :: List.replicate s.stop.cnt.toNat .tick) s = .next t ∧ t.out = false

/-- 70_reset_and_hazards.md R212 with 42_timer.md R121, for every representable configuration, the ill-formed ones among them: a
level 1..99 whose fire delay is not positive makes the configuration ill formed, arms one microsecond, and the next TICK asserts
the output. With a zero reference, ill formed too, the quotient that enters FireDelay is the model's (log 13). -/
def Obligations.NonPositiveDelayArmsOneMicrosecond : Prop :=
  ∀ (c : Config) (v : Nat) (s : State), c.representable = true → 1 ≤ v → v ≤ 99 → fireDelay c (clampLevel v) ≤ 0 →
    s.run = true → s.stop.pending = false →
    c.wf = false ∧ (fallOn (setLevelOn c v s)).fire = { pending := true, cnt := 1 } ∧
    (tickOn c (fallOn (setLevelOn c v s))).out = true
end

