-- ==== Sys2Proof/Laws/State.lean ====
section
/-! SUPPORT. One lemma per field per named update of the state: what the update writes, and that it leaves the others. -/

namespace Sys2Proof.Machine

/-! Replacing the fire channel. -/

@[simp] theorem withChannel_fire_lvl (x : Channel) (s : State) : (withChannel .fire x s).lvl = s.lvl := rfl
@[simp] theorem withChannel_fire_fd (x : Channel) (s : State) : (withChannel .fire x s).fd = s.fd := rfl
@[simp] theorem withChannel_fire_out (x : Channel) (s : State) : (withChannel .fire x s).out = s.out := rfl
@[simp] theorem withChannel_fire_fire (x : Channel) (s : State) : (withChannel .fire x s).fire = x := rfl
@[simp] theorem withChannel_fire_stop (x : Channel) (s : State) : (withChannel .fire x s).stop = s.stop := rfl
@[simp] theorem withChannel_fire_run (x : Channel) (s : State) : (withChannel .fire x s).run = s.run := rfl
@[simp] theorem withChannel_fire_zcPrev (x : Channel) (s : State) : (withChannel .fire x s).zcPrev = s.zcPrev := rfl
@[simp] theorem withChannel_fire_trace (x : Channel) (s : State) : (withChannel .fire x s).trace = s.trace := rfl
@[simp] theorem withChannel_fire_freeSeq (x : Channel) (s : State) : (withChannel .fire x s).freeSeq = s.freeSeq := rfl

/-! Replacing the stop channel. -/

@[simp] theorem withChannel_stop_lvl (x : Channel) (s : State) : (withChannel .stop x s).lvl = s.lvl := rfl
@[simp] theorem withChannel_stop_fd (x : Channel) (s : State) : (withChannel .stop x s).fd = s.fd := rfl
@[simp] theorem withChannel_stop_out (x : Channel) (s : State) : (withChannel .stop x s).out = s.out := rfl
@[simp] theorem withChannel_stop_fire (x : Channel) (s : State) : (withChannel .stop x s).fire = s.fire := rfl
@[simp] theorem withChannel_stop_stop (x : Channel) (s : State) : (withChannel .stop x s).stop = x := rfl
@[simp] theorem withChannel_stop_run (x : Channel) (s : State) : (withChannel .stop x s).run = s.run := rfl
@[simp] theorem withChannel_stop_zcPrev (x : Channel) (s : State) : (withChannel .stop x s).zcPrev = s.zcPrev := rfl
@[simp] theorem withChannel_stop_trace (x : Channel) (s : State) : (withChannel .stop x s).trace = s.trace := rfl
@[simp] theorem withChannel_stop_freeSeq (x : Channel) (s : State) : (withChannel .stop x s).freeSeq = s.freeSeq := rfl

/-! ARM of the fire channel (R121). -/

@[simp] theorem arm_fire_lvl (d : Int) (s : State) : (arm .fire d s).lvl = s.lvl := rfl
@[simp] theorem arm_fire_fd (d : Int) (s : State) : (arm .fire d s).fd = s.fd := rfl
@[simp] theorem arm_fire_out (d : Int) (s : State) : (arm .fire d s).out = s.out := rfl
@[simp] theorem arm_fire_fire (d : Int) (s : State) : (arm .fire d s).fire = { pending := true, cnt := armCount d } := rfl
@[simp] theorem arm_fire_stop (d : Int) (s : State) : (arm .fire d s).stop = s.stop := rfl
@[simp] theorem arm_fire_run (d : Int) (s : State) : (arm .fire d s).run = s.run := rfl
@[simp] theorem arm_fire_zcPrev (d : Int) (s : State) : (arm .fire d s).zcPrev = s.zcPrev := rfl
@[simp] theorem arm_fire_trace (d : Int) (s : State) : (arm .fire d s).trace = s.trace := rfl
@[simp] theorem arm_fire_freeSeq (d : Int) (s : State) : (arm .fire d s).freeSeq = s.freeSeq := rfl

/-! ARM of the stop channel (R121). -/

@[simp] theorem arm_stop_lvl (d : Int) (s : State) : (arm .stop d s).lvl = s.lvl := rfl
@[simp] theorem arm_stop_fd (d : Int) (s : State) : (arm .stop d s).fd = s.fd := rfl
@[simp] theorem arm_stop_out (d : Int) (s : State) : (arm .stop d s).out = s.out := rfl
@[simp] theorem arm_stop_fire (d : Int) (s : State) : (arm .stop d s).fire = s.fire := rfl
@[simp] theorem arm_stop_stop (d : Int) (s : State) : (arm .stop d s).stop = { pending := true, cnt := armCount d } := rfl
@[simp] theorem arm_stop_run (d : Int) (s : State) : (arm .stop d s).run = s.run := rfl
@[simp] theorem arm_stop_zcPrev (d : Int) (s : State) : (arm .stop d s).zcPrev = s.zcPrev := rfl
@[simp] theorem arm_stop_trace (d : Int) (s : State) : (arm .stop d s).trace = s.trace := rfl
@[simp] theorem arm_stop_freeSeq (d : Int) (s : State) : (arm .stop d s).freeSeq = s.freeSeq := rfl

/-! CANCEL of the fire channel (R122). -/

@[simp] theorem cancel_fire_lvl (s : State) : (cancel .fire s).lvl = s.lvl := rfl
@[simp] theorem cancel_fire_fd (s : State) : (cancel .fire s).fd = s.fd := rfl
@[simp] theorem cancel_fire_out (s : State) : (cancel .fire s).out = s.out := rfl
@[simp] theorem cancel_fire_fire (s : State) : (cancel .fire s).fire = { s.fire with pending := false } := rfl
@[simp] theorem cancel_fire_stop (s : State) : (cancel .fire s).stop = s.stop := rfl
@[simp] theorem cancel_fire_run (s : State) : (cancel .fire s).run = s.run := rfl
@[simp] theorem cancel_fire_zcPrev (s : State) : (cancel .fire s).zcPrev = s.zcPrev := rfl
@[simp] theorem cancel_fire_trace (s : State) : (cancel .fire s).trace = s.trace := rfl
@[simp] theorem cancel_fire_freeSeq (s : State) : (cancel .fire s).freeSeq = s.freeSeq := rfl

/-! CANCEL of the stop channel (R122). -/

@[simp] theorem cancel_stop_lvl (s : State) : (cancel .stop s).lvl = s.lvl := rfl
@[simp] theorem cancel_stop_fd (s : State) : (cancel .stop s).fd = s.fd := rfl
@[simp] theorem cancel_stop_out (s : State) : (cancel .stop s).out = s.out := rfl
@[simp] theorem cancel_stop_fire (s : State) : (cancel .stop s).fire = s.fire := rfl
@[simp] theorem cancel_stop_stop (s : State) : (cancel .stop s).stop = { s.stop with pending := false } := rfl
@[simp] theorem cancel_stop_run (s : State) : (cancel .stop s).run = s.run := rfl
@[simp] theorem cancel_stop_zcPrev (s : State) : (cancel .stop s).zcPrev = s.zcPrev := rfl
@[simp] theorem cancel_stop_trace (s : State) : (cancel .stop s).trace = s.trace := rfl
@[simp] theorem cancel_stop_freeSeq (s : State) : (cancel .stop s).freeSeq = s.freeSeq := rfl

/-! DRIVE (R150). -/

@[simp] theorem drive_lvl (b : Bool) (s : State) : (drive b s).lvl = s.lvl := rfl
@[simp] theorem drive_fd (b : Bool) (s : State) : (drive b s).fd = s.fd := rfl
@[simp] theorem drive_out (b : Bool) (s : State) : (drive b s).out = b := rfl
@[simp] theorem drive_fire (b : Bool) (s : State) : (drive b s).fire = s.fire := rfl
@[simp] theorem drive_stop (b : Bool) (s : State) : (drive b s).stop = s.stop := rfl
@[simp] theorem drive_run (b : Bool) (s : State) : (drive b s).run = s.run := rfl
@[simp] theorem drive_zcPrev (b : Bool) (s : State) : (drive b s).zcPrev = s.zcPrev := rfl
@[simp] theorem drive_trace (b : Bool) (s : State) : (drive b s).trace = s.trace := rfl
@[simp] theorem drive_freeSeq (b : Bool) (s : State) : (drive b s).freeSeq = s.freeSeq := rfl

/-! The write of the pair `lvl` and `fd` (R142). -/

@[simp] theorem writeLevel_lvl (c : Config) (L : Level) (s : State) : (writeLevel c L s).lvl = levelReg L := rfl
@[simp] theorem writeLevel_fd (c : Config) (L : Level) (s : State) : (writeLevel c L s).fd = fdValue c L := rfl
@[simp] theorem writeLevel_out (c : Config) (L : Level) (s : State) : (writeLevel c L s).out = s.out := rfl
@[simp] theorem writeLevel_fire (c : Config) (L : Level) (s : State) : (writeLevel c L s).fire = s.fire := rfl
@[simp] theorem writeLevel_stop (c : Config) (L : Level) (s : State) : (writeLevel c L s).stop = s.stop := rfl
@[simp] theorem writeLevel_run (c : Config) (L : Level) (s : State) : (writeLevel c L s).run = s.run := rfl
@[simp] theorem writeLevel_zcPrev (c : Config) (L : Level) (s : State) : (writeLevel c L s).zcPrev = s.zcPrev := rfl
@[simp] theorem writeLevel_trace (c : Config) (L : Level) (s : State) : (writeLevel c L s).trace = s.trace := rfl
@[simp] theorem writeLevel_freeSeq (c : Config) (L : Level) (s : State) : (writeLevel c L s).freeSeq = s.freeSeq := rfl

/-! CANCEL then DRIVE of START, STOP and FALL (R154) is said by the lemmas above; phase 1 of TICK and taking or placing a word follow. -/

@[simp] theorem afterFetch_lvl (s : State) : (afterFetch s).lvl = s.lvl := rfl
@[simp] theorem afterFetch_fd (s : State) : (afterFetch s).fd = s.fd := rfl
@[simp] theorem afterFetch_out (s : State) : (afterFetch s).out = s.out := rfl
@[simp] theorem afterFetch_fire (s : State) : (afterFetch s).fire = s.fire := rfl
@[simp] theorem afterFetch_stop (s : State) : (afterFetch s).stop = s.stop := rfl
@[simp] theorem afterFetch_run (s : State) : (afterFetch s).run = s.run := rfl
@[simp] theorem afterFetch_zcPrev (s : State) : (afterFetch s).zcPrev = s.zcPrev := rfl
@[simp] theorem afterFetch_trace (s : State) : (afterFetch s).trace = s.trace.tail := rfl
@[simp] theorem afterFetch_freeSeq (s : State) : (afterFetch s).freeSeq = s.freeSeq := rfl
@[simp] theorem placeWord_lvl (w : EventWord) (s : State) : (placeWord w s).lvl = s.lvl := rfl
@[simp] theorem placeWord_fd (w : EventWord) (s : State) : (placeWord w s).fd = s.fd := rfl
@[simp] theorem placeWord_out (w : EventWord) (s : State) : (placeWord w s).out = s.out := rfl
@[simp] theorem placeWord_fire (w : EventWord) (s : State) : (placeWord w s).fire = s.fire := rfl
@[simp] theorem placeWord_stop (w : EventWord) (s : State) : (placeWord w s).stop = s.stop := rfl
@[simp] theorem placeWord_run (w : EventWord) (s : State) : (placeWord w s).run = s.run := rfl
@[simp] theorem placeWord_zcPrev (w : EventWord) (s : State) : (placeWord w s).zcPrev = s.zcPrev := rfl
@[simp] theorem placeWord_trace (w : EventWord) (s : State) : (placeWord w s).trace = w :: s.trace := rfl
@[simp] theorem placeWord_freeSeq (w : EventWord) (s : State) : (placeWord w s).freeSeq = s.freeSeq := rfl

end Sys2Proof.Machine
end

