-- ==== Sys2Proof/Laws/Ops.lean ====
section
/-! SUPPORT. One spec lemma per shared operation: everything it can do, said once, for later proofs to cite. -/

namespace Sys2Proof.Machine

/-- ARM of a delay that fits the counter loads `max(d, 1)` exactly (42_timer.md R121). -/
theorem armCount_toNat (d : Int) (h : d ≤ 65535) : ((armCount d).toNat : Int) = max d 1 := by
  unfold armCount
  rw [BitVec.toNat_ofInt]
  rcases le_total d 1 with h1 | h1
  · rw [max_eq_right h1]; rfl
  · rw [max_eq_left h1]; omega

/-- The clamp gives `min(v, 100)`. -/
@[simp] theorem clampLevel_val (v : Nat) : (clampLevel v).val = min v 100 := rfl

/-- The register holds the level. -/
@[simp] theorem levelReg_toNat (L : Level) : (levelReg L).toNat = L.val := by
  have := L.isLt
  simp only [levelReg, BitVec.toNat_ofNat]
  omega

/-- Clamping the register of a level gives the level back. -/
@[simp] theorem clampLevel_levelReg (L : Level) : clampLevel (levelReg L).toNat = L := by
  have := L.isLt
  ext
  rw [clampLevel_val, levelReg_toNat]
  omega

@[simp] theorem channelCount_pending (ch : Channel) : (channelCount ch).pending = ch.pending := by
  unfold channelCount; split <;> rfl

/-- Phase 1 of TICK takes one from a pending count above 1 and leaves any other (R123). -/
theorem channelCount_cnt_toNat (ch : Channel) :
    (channelCount ch).cnt.toNat =
      if ch.pending = true ∧ 1 < ch.cnt.toNat then ch.cnt.toNat - 1 else ch.cnt.toNat := by
  simp only [channelCount, Bool.and_eq_true, decide_eq_true_eq]
  split
  · bv_omega
  · rfl

/-- A channel is due exactly when it is pending with at most one TICK to go (R123). -/
theorem channelDue_iff (ch : Channel) : channelDue ch = true ↔ ch.pending = true ∧ ch.cnt.toNat ≤ 1 := by
  simp [channelDue]

/-- The end of an operation is always a next state. -/
@[simp] theorem done_eq (s : State) : done s = .next s := rfl

/-- GET_LEVEL is the one operation that answers, and it answers the level (43_level.md R141). -/
theorem answerOf_eq (i : Instr) (s : State) : answerOf i s = if i = .getLevel then some s.lvl else none := by
  cases i <;> rfl

/-- The pin and the answer of an operation that has a next state. -/
theorem outPorts_next (c : Config) (i : Instr) (s t : State) (h : exec i s = .next t) :
    outPorts c i s = some { rdata := answerOf i s, gateOut := gateOut c t } := by
  simp [outPorts, h]

@[simp] theorem answersOf_nil (s : State) : answersOf [] s = [] := rfl

/-- The answer of one operation, then those of the rest. -/
theorem answersOf_cons_next (i : Instr) (is : List Instr) (s t : State) (h : exec i s = .next t) :
    answersOf (i :: is) s = (answerOf i s).toList ++ answersOf is t := by
  simp [answersOf, h]

@[simp] theorem runOps_nil (s : State) : runOps [] s = .next s := rfl

/-- One operation, then the rest. -/
theorem runOps_cons_next (i : Instr) (is : List Instr) (s t : State) (h : exec i s = .next t) :
    runOps (i :: is) s = runOps is t := by
  simp [runOps, h]

/-- A run of two parts is the second part run from where the first ended. -/
theorem runOps_append_next (is js : List Instr) (s t : State) (h : runOps is s = .next t) :
    runOps (is ++ js) s = runOps js t := by
  induction is generalizing s with
  | nil => cases h; rfl
  | cons i is ih =>
    simp only [List.cons_append, runOps] at h ⊢
    cases hi : exec i s with
    | next u => rw [hi] at h; exact ih u h
    | fault f => rw [hi] at h; cases h
    | refused r => rw [hi] at h; cases h

@[simp] theorem ticksIn_nil : ticksIn [] = 0 := rfl

/-- TICK takes one microsecond, every other operation none (00_scope.md R14). -/
theorem ticksIn_cons (i : Instr) (is : List Instr) :
    ticksIn (i :: is) = ticksIn is + if i = .tick then 1 else 0 := by
  simp [ticksIn, List.count_cons]

end Sys2Proof.Machine
end

