-- ==== Sys2Proof/Laws/PerInstr.lean ====
section
/-! SUPPORT. Statements made per operation about its encoding. The family EncodeFields: the two fields of an encoded operation
are its opcode and its operand (30_encoding.md R70). -/

namespace Sys2Proof

/-- A word put together from two bytes has them as its fields. -/
theorem opField_append (op imm : Byte) : opField (op ++ imm) = op := by
  apply BitVec.eq_of_getLsbD_eq
  intro i hi
  rw [opField, BitVec.getLsbD_extractLsb', BitVec.getLsbD_append]
  simp [hi]

theorem immField_append (op imm : Byte) : immField (op ++ imm) = imm := by
  apply BitVec.eq_of_getLsbD_eq
  intro i hi
  rw [immField, BitVec.getLsbD_extractLsb', BitVec.getLsbD_append]
  simp [hi]

namespace Laws.EncodeFields

/-- The fields `op` and `imm` of the encoded operation. -/
def Statement (i : Instr) : Prop := opField (encode i) = opcode i ∧ immField (encode i) = operandField i

theorem nop : Statement .nop := ⟨opField_append _ _, immField_append _ _⟩
theorem getLevel : Statement .getLevel := ⟨opField_append _ _, immField_append _ _⟩
theorem setLevel (v : Byte) : Statement (.setLevel v) := ⟨opField_append _ _, immField_append _ _⟩
theorem increase (s : Byte) : Statement (.increase s) := ⟨opField_append _ _, immField_append _ _⟩
theorem decrease (s : Byte) : Statement (.decrease s) := ⟨opField_append _ _, immField_append _ _⟩
theorem start : Statement .start := ⟨opField_append _ _, immField_append _ _⟩
theorem stop : Statement .stop := ⟨opField_append _ _, immField_append _ _⟩
theorem shutdown : Statement .shutdown := ⟨opField_append _ _, immField_append _ _⟩
theorem fall : Statement .fall := ⟨opField_append _ _, immField_append _ _⟩
theorem rise : Statement .rise := ⟨opField_append _ _, immField_append _ _⟩
theorem sample (b : Bool) : Statement (.sample b) := ⟨opField_append _ _, immField_append _ _⟩
theorem tick : Statement .tick := ⟨opField_append _ _, immField_append _ _⟩
theorem fireExpire : Statement .fireExpire := ⟨opField_append _ _, immField_append _ _⟩
theorem stopExpire : Statement .stopExpire := ⟨opField_append _ _, immField_append _ _⟩
theorem reset : Statement .reset := ⟨opField_append _ _, immField_append _ _⟩

end Laws.EncodeFields

end Sys2Proof
end

