-- ==== Sys2Proof/Laws/WellFormed.lean ====
section
/-! SUPPORT. The checks of a well-formed configuration (00_scope.md R12) as propositions, and that the machine's own
configuration passes them. -/

namespace Sys2Proof

theorem Config.tableEndsOk_iff (c : Config) :
    c.tableEndsOk = true ↔
      (Machine.lookup c 0).toNat = 0 ∧ (Machine.lookup c 100).toNat = c.refHalfPeriodUsec := by
  simp [Config.tableEndsOk]

theorem Config.tableMonotone_iff (c : Config) :
    c.tableMonotone = true ↔
      ∀ i : Fin 100, (Machine.lookup c i.castSucc).toNat ≤ (Machine.lookup c i.succ).toNat := by
  simp [Config.tableMonotone]

theorem Config.halfPeriodOk_iff (c : Config) :
    c.halfPeriodOk = true ↔ 2 ≤ c.halfPeriodUsec ∧ c.halfPeriodUsec ≤ 65535 := by
  simp [Config.halfPeriodOk]

theorem Config.lagOk_iff (c : Config) :
    c.lagOk = true ↔ ∀ L : Level, L.val ≠ 0 → L.val ≠ 100 → 1 ≤ Machine.fireDelay c L := by
  simp only [Config.lagOk, List.all_eq_true, List.mem_finRange, true_implies, Bool.or_eq_true, beq_iff_eq,
    decide_eq_true_eq]
  exact forall_congr' fun L => by tauto

/-- The five checks of a well-formed configuration. -/
theorem Config.wf_iff (c : Config) :
    c.wf = true ↔
      c.tableEndsOk = true ∧ c.tableMonotone = true ∧ c.refOk = true ∧ c.halfPeriodOk = true ∧ c.lagOk = true := by
  simp [Config.wf, and_assoc]

/-- The machine's configuration is well formed. -/
theorem Config.current_wf : Config.current.wf = true := Config.chosen.wf

/-- Its table is the 60 Hz-reference table (00_scope.md R7). -/
theorem Config.current_ref : Config.current.refHalfPeriodUsec = 8333 := Config.chosen.ref

/-- Its default level is 75 (10_state.md R36). -/
@[simp] theorem Config.current_defaultLevel : Config.current.defaultLevel = 75 := rfl

end Sys2Proof
end

