-- ==== Sys2Proof/Tests/Slice0.lean ====
section
/-! SUPPORT. Tests and witnesses. Expected values come from the spec: the words from 30_encoding.md R71 and 95_test_vectors.md
D-E, the numbers from 40_delay_table.md R99 and the vectors D-T, D-Z, D-M, D-L, D-O of 95_test_vectors.md. A witness meets the
hypotheses of the obligation it names. -/

namespace Sys2Proof.Tests

open Sys2Proof Sys2Proof.Machine

/-! ## Helpers -/

/-- A channel from the vectors' notation: `-` is idle, a number a pending count. -/
def chan (n : Option Nat) : Channel :=
  match n with
  | none => { pending := false, cnt := 0 }
  | some k => { pending := true, cnt := BitVec.ofNat 16 k }

/-- A state from the vectors' notation `lvl / fd / out / fire / stop / run / zc_prev`. -/
def st (lvl : Nat) (fd : Int) (out : Bool) (fire stop : Option Nat) (run zc : Bool) : State where
  lvl := BitVec.ofNat 8 lvl
  fd := BitVec.ofInt 32 fd
  out := out
  fire := chan fire
  stop := chan stop
  run := run
  zcPrev := zc
  trace := []
  freeSeq := 0

/-- What an outcome's next state satisfies; false where there is none. -/
def nextMeets (o : Host.Outcome State Fault Refusal) (p : State → Bool) : Bool :=
  match o with
  | .next t => p t
  | .fault _ => false
  | .refused _ => false

/-- The fields of the block in the vectors' notation, the counts of idle channels dropped. -/
structure Shown where
  lvl : Nat
  fd : Int
  out : Bool
  fire : Option Nat
  stop : Option Nat
  run : Bool
  zcPrev : Bool
deriving DecidableEq, Repr

def shown (s : State) : Shown where
  lvl := s.lvl.toNat
  fd := s.fd.toInt
  out := s.out
  fire := if s.fire.pending then some s.fire.cnt.toNat else none
  stop := if s.stop.pending then some s.stop.cnt.toNat else none
  run := s.run
  zcPrev := s.zcPrev

def withLag (c : Config) (lag : Nat) : Config := { c with sensorLagUsec := lag }

/-! ## Decoding: a word written out for every constructor (R71, D-E) -/

theorem test_decode_commands :
    [decode 0x0000, decode 0x0100, decode 0x0232, decode 0x0296, decode 0x0305, decode 0x04FF, decode 0x0500, decode 0x0600,
      decode 0x0700].map (fun r => r.toOption) =
    [some .nop, some .getLevel, some (.setLevel 50), some (.setLevel 150), some (.increase 5), some (.decrease 255), some .start,
      some .stop, some .shutdown] := by decide

theorem test_decode_events :
    [decode 0x1000, decode 0x1100, decode 0x1200, decode 0x1201, decode 0x1300, decode 0x1400, decode 0x1500,
      decode 0xFF00].map (fun r => r.toOption) =
    [some .fall, some .rise, some (.sample false), some (.sample true), some .tick, some .fireExpire, some .stopExpire,
      some .reset] := by decide

/-- R74 and R73: ignored operand bits (D-E 05A7, D-Z13 12FE). -/
theorem test_decode_ignores_operand :
    [decode 0x05A7, decode 0x12FE, decode 0x12FF].map (fun r => r.toOption) =
    [some .start, some (.sample false), some (.sample true)] := by decide

/-- R75 at the ends of both reserved ranges (D-E 0800, 1600, 2000, FE00). -/
theorem test_reserved_boundaries :
    [decode 0x0800, decode 0x0FFF, decode 0x1600, decode 0x2000, decode 0xFEFF].map (fun r => r.toOption) =
    List.replicate 5 none := by decide

theorem test_assigned_next_to_reserved :
    [decode 0x07FF, decode 0x10FF, decode 0x15FF, decode 0xFF00].map (fun r => r.toOption) =
    [some .shutdown, some .fall, some .stopExpire, some .reset] := by decide

theorem test_encode_words :
    [Instr.setLevel 150, .increase 1, .sample true, .reset].map encode = [0x0296, 0x0301, 0x1201, 0xFF00] := by decide

theorem test_table_word : decodeTableWord 16 0x1000 = some .fall ∧ decodeTableWord 8 0x00 = some .nop := by decide

/-- R77: "SET_LEVEL 150" is the word 0x0296; "INCREASE" alone is 0x0301 (R78). -/
theorem test_text_lines :
    (lineOf "SET_LEVEL" (some 150)).map (fun l => assemble [l]) = some [0x0296] ∧
    (lineOf "INCREASE" none).map (fun l => assemble [l]) = some [0x0301] ∧ lineOf "SET_LEVEL" (some 256) = none ∧
    lineOf "SAMPLE" (some 2) = none := by decide

/-! ## Well-formed configurations: each check and an ill-formed one (R12) -/

theorem test_default_configurations_wf : Config.c50.wf = true ∧ Config.c60.wf = true := by decide

theorem test_refuses_first_entry_not_zero :
    ({ Config.c60 with table := Config.defaultTable.set 0 1 } : Config).tableEndsOk = false := by decide

theorem test_refuses_last_entry_not_reference :
    ({ Config.c60 with table := Config.defaultTable.set 100 8334 } : Config).wf = false := by decide

theorem test_refuses_decreasing_table :
    ({ Config.c60 with table := Config.defaultTable.set 50 1 } : Config).tableMonotone = false := by decide

theorem test_refuses_zero_reference : ({ Config.c60 with refHalfPeriodUsec := 0 } : Config).refOk = false := by decide

theorem test_refuses_half_period_out_of_range :
    ({ Config.c60 with halfPeriodUsec := 1 } : Config).halfPeriodOk = false ∧
    ({ Config.c60 with halfPeriodUsec := 65536 } : Config).halfPeriodOk = false := by decide

/-- 00_scope.md section 4: at 60 Hz a lag of 530 is the largest, at 50 Hz 637 (D-T6, D-T8). -/
theorem test_refuses_lag_too_large :
    (withLag Config.c60 530).lagOk = true ∧ (withLag Config.c60 531).lagOk = false ∧
    (withLag Config.c50 637).lagOk = true ∧ (withLag Config.c50 638).lagOk = false := by decide

theorem test_refuses_unrepresentable :
    (withLag Config.c60 600).representable = true ∧ (withLag Config.c60 3000000000).representable = false := by decide

/-! ## Interpolator (R99, D-T) -/

/-- R52: the row label and place of some entries; 101 of them. -/
theorem test_default_table :
    Config.defaultTableRows.length = 101 ∧ lookup Config.c60 25 = 2778 ∧ lookup Config.c60 50 = 4167 ∧
    lookup Config.c60 75 = 5556 ∧ lookup Config.c60 95 = 7137 ∧ lookup Config.c60 99 = 7802 := by decide

theorem test_scaled_50_hz :
    [(0 : Level), 1, 2, 25, 50, 75, 95, 98, 99, 100].map (scaled Config.c50) =
    [0, 637, 903, 3333, 5000, 6667, 8564, 9097, 9362, 10000] := by decide

theorem test_fire_delay_60_hz :
    [(0 : Level), 1, 2, 25, 50, 75, 95, 98, 99, 100].map (fireDelay Config.c60) =
    [8233, 7702, 7480, 5455, 4066, 2677, 1096, 652, 431, -100] := by decide

theorem test_fire_delay_50_hz :
    [(0 : Level), 1, 2, 25, 50, 75, 95, 98, 99, 100].map (fireDelay Config.c50) =
    [9900, 9263, 8997, 6567, 4900, 3233, 1336, 803, 538, -100] := by decide

theorem test_stop_delay : Config.c60.stopDelayUsec = 4166 ∧ Config.c50.stopDelayUsec = 5000 := by decide

/-! ## Operations -/

/-- D-L16. -/
theorem test_nop : nextMeets (exec .nop (st 100 (-100) false none none true true))
    (fun t => shown t == ⟨100, -100, false, none, none, true, true⟩) = true := by decide

/-- S10: after reset GET_LEVEL answers 75; D-O7: it answers in the dead state. -/
theorem test_get_level : stepAnswer (State.reset.withFetchWord 16 0x0100) = some 75 ∧
    nextMeets (exec .getLevel (st 50 4900 false none none false true))
      (fun t => shown t == ⟨50, 4900, false, none, none, false, true⟩) = true ∧
    answerOf .getLevel (st 50 4900 false none none false true) = some 50 := by decide

/-- S10 with a level set in between: the answer is the clamped level (R141), and the other operations answer nothing. -/
theorem test_answers : answersOf [.getLevel, .nop, .tick, .getLevel] (st 100 (-100) false none none true true) = [100, 100] ∧
    stepAnswer (State.reset.withFetchWord 16 0x0000) = none ∧ stepAnswer (State.reset.withFetchWord 16 0x0800) = none := by
  decide

/-- D-L1 and D-L3. -/
theorem test_set_level : shown (setLevelOn Config.c60 150 (st 75 2677 false none none true true)) =
      ⟨100, -100, false, none, none, true, true⟩ ∧
    shown (setLevelOn Config.c60 2 (st 95 1096 false none none true true)) = ⟨2, 7480, false, none, none, true, true⟩ := by decide

/-- P3: SET_LEVEL 25 while the fire timer runs leaves its count. -/
theorem test_set_level_keeps_timer : shown (setLevelOn Config.c50 25 (st 50 4900 false (some 3900) none true true)) =
    ⟨25, 6567, false, some 3900, none, true, true⟩ := by decide

/-- D-L7 and D-L10. -/
theorem test_increase : shown (increaseOn Config.c60 5 (st 98 652 false none none true true)) =
      ⟨100, -100, false, none, none, true, true⟩ ∧
    shown (increaseOn Config.c60 255 (st 99 431 false none none true true)) = ⟨100, -100, false, none, none, true, true⟩ := by
  decide

/-- D-L4 and D-L2. -/
theorem test_decrease : shown (decreaseOn Config.c60 5 (st 2 7480 false none none true true)) =
      ⟨0, 8233, false, none, none, true, true⟩ ∧
    shown (decreaseOn Config.c60 5 (st 100 (-100) false none none true true)) = ⟨95, 1096, false, none, none, true, true⟩ := by
  decide

/-- D-O1 and D-O3. -/
theorem test_start : nextMeets (exec .start (st 50 4900 false (some 3000) none true true))
      (fun t => shown t == ⟨50, 4900, true, none, none, true, true⟩) = true ∧
    nextMeets (exec .start (st 0 9900 false none none true true)) (fun t => t.out) = true := by decide

/-- D-O2. -/
theorem test_stop : nextMeets (exec .stop (st 50 4900 true (some 3000) (some 2000) true true))
    (fun t => shown t == ⟨50, 4900, false, none, some 2000, true, true⟩) = true := by decide

/-- D-O5. -/
theorem test_shutdown : nextMeets (exec .shutdown (st 50 4900 true (some 3000) (some 2000) true true))
    (fun t => shown t == ⟨50, 4900, false, none, none, false, true⟩) = true := by decide

/-- D-O6: SAMPLE 0 on a dead block does not even update `zc_prev`. -/
theorem test_dead_sample : nextMeets (exec (.sample false) (st 50 4900 false none none false true))
    (fun t => shown t == ⟨50, 4900, false, none, none, false, true⟩) = true := by decide

/-- D-Z9 and D-Z11. -/
theorem test_fall : shown (fallOn (st 50 4900 true none none true true)) = ⟨50, 4900, true, some 4900, none, true, true⟩ ∧
    shown (fallOn (st 100 (-100) false (some 4000) (some 2000) true true)) =
      ⟨100, -100, true, none, some 2000, true, true⟩ := by decide

/-- D-Z10: the level-0 path cancels and de-asserts. -/
theorem test_fall_level_zero : shown (fallOn (st 0 9900 true (some 4000) none true true)) =
    ⟨0, 9900, false, none, none, true, true⟩ := by decide

/-- D-Z12. -/
theorem test_rise : shown (riseOn Config.c50 (st 50 4900 true none (some 3000) true true)) =
    ⟨50, 4900, true, none, some 5000, true, true⟩ := by decide

/-- D-Z2 and D-Z4. -/
theorem test_sample : shown (sampleOn Config.c50 false (st 75 3233 false none none true true)) =
      ⟨75, 3233, false, some 3233, none, true, false⟩ ∧
    shown (sampleOn Config.c50 true (st 75 3233 false (some 3233) none true false)) =
      ⟨75, 3233, false, some 3233, some 5000, true, true⟩ := by decide

/-- D-M1 and D-M2. -/
theorem test_tick : shown (tickOn Config.c50 (st 50 4900 false (some 2) none true true)) =
      ⟨50, 4900, false, some 1, none, true, true⟩ ∧
    shown (tickOn Config.c50 (st 50 4900 false (some 1) none true true)) = ⟨50, 4900, true, none, none, true, true⟩ := by decide

def stopFirst (c : Config) : Config := { c with expiryOrder := fun _ => .stopFirst }

def cancels (c : Config) : Config := { c with stopExpiryCancelsFire := true }

/-- D-M7, D-M8 and D-M9: both channels due in one TICK. -/
theorem test_tick_both_due :
    [Config.c50, stopFirst Config.c50, cancels Config.c50, cancels (stopFirst Config.c50)].map
      (fun c => (tickOn c (st 50 4900 false (some 1) (some 1) true true)).out) = [false, true, false, false] := by decide

/-- D-M6 and D-M4. -/
theorem test_fire_expire : shown (fireExpireOn (st 50 4900 false (some 300) none true true)) =
      ⟨50, 4900, true, none, none, true, true⟩ ∧
    shown (fireExpireOn (st 50 4900 false none none true true)) = ⟨50, 4900, false, none, none, true, true⟩ := by decide

/-- D-M11 and D-M12 at their stop expiry: a fire timer with 3900 left stays, or is cancelled. -/
theorem test_stop_expire : shown (stopExpireOn Config.c50 (st 50 4900 true (some 3900) (some 1) true true)) =
      ⟨50, 4900, false, some 3900, none, true, true⟩ ∧
    shown (stopExpireOn (cancels Config.c50) (st 50 4900 true (some 3900) (some 1) true true)) =
      ⟨50, 4900, false, none, none, true, true⟩ := by decide

/-- D-O8, from a dead block, and with ZC_PULL = DOWN (D-Z6). -/
theorem test_reset : shown (resetOn Config.c50 (st 50 4900 false none none false true)) =
      ⟨75, 3233, false, none, none, true, true⟩ ∧
    (resetOn { Config.c50 with zcPull := .down } (st 50 4900 false none none false true)).zcPrev = false := by decide

/-- D-T7: an ill-formed lag arms one microsecond at level 99. -/
theorem test_ill_formed_lag :
    shown (fallOn (setLevelOn (withLag Config.c60 600) 99 (st 75 0 false none none true true))) =
      ⟨99, -69, false, some 1, none, true, true⟩ := by decide

/-- D-O9: the pin is the complement of `out` where it is active low. -/
theorem test_gate_active_low :
    gateOut { Config.c60 with outActiveHigh := false } (st 50 4066 true none none true true) = false := by decide

/-- R33: the operations of one instant; R175: any order of them is admitted. -/
theorem test_ports : portWords { rst := false, zcIn := some false, tick1us := true, cmdValid := true, cmd := 0x0232 } =
    [0x1200, 0x1300, 0x0232] := by decide

theorem test_ports_any_order :
    admittedOrder { rst := false, zcIn := some false, tick1us := true, cmdValid := true, cmd := 0x0232 }
      [0x0232, 0x1200, 0x1300] := by
  unfold admittedOrder; decide

/-- R76: a run that mixes TICK with an expiry word mixes the profiles. -/
theorem test_profiles : unmixed [.fall, .tick, .rise] = true ∧ unmixed [.fall, .fireExpire] = true ∧
    unmixed [.tick, .fireExpire] = false := by decide

/-- R200. -/
theorem test_alternating : alternating [.fall, .tick, .rise, .fall] ∧ ¬ alternating [.fall, .tick, .fall] := by
  unfold alternating; decide

/-! ## Witnesses: the hypotheses of each obligation can be met -/

/-- At a level that is armed, `fd` is exact in the machine's configuration: FireDelay lies between 1 and the half-period. -/
theorem armed_fd_exact (L : Level) (h0 : L.val ≠ 0) (h100 : L.val ≠ 100) :
    (fdValue Config.current L).toInt = fireDelay Config.current L := by
  obtain ⟨_, _, _, hh, hl⟩ := (Config.wf_iff _).1 Config.current_wf
  have h1 := (Config.lagOk_iff _).1 hl L h0 h100
  have h2 := (Config.halfPeriodOk_iff _).1 hh
  unfold fdValue
  rw [BitVec.toInt_ofInt_eq_self (by decide)] <;> unfold fireDelay at * <;> norm_num <;> omega

/-- A live state at level 50 with the output off and no timer pending. -/
def off50 : State := { st 50 0 false none none true true with fd := fdValue Config.current 50 }

theorem off50_inv : Inv Config.current off50 where
  level := by decide
  delay := armed_fd_exact 50 (by decide) (by decide)
  fireLow := fun h => by cases h
  fireHigh := fun h => by cases h
  stopLow := fun h => by cases h
  stopHigh := fun h => by cases h
  dead := fun h => by cases h

theorem witness_IntendedCycleReturnsToOff : Inv Config.current off50 ∧ off50.run = true ∧ 1 ≤ off50.lvl.toNat ∧
    off50.lvl.toNat ≤ 99 ∧ triple off50 = (false, false, false) := ⟨off50_inv, rfl, by decide, by decide, rfl⟩

theorem witness_StepKeepsTheInvariants : ∃ t, Inv Config.current off50 ∧ step off50 = .next t := ⟨off50, off50_inv, rfl⟩

theorem witness_OpcodeMapDecodesEveryOperand :
    (0x08 : Byte).toNat ∉ [0, 1, 2, 3, 4, 5, 6, 7, 16, 17, 18, 19, 20, 21, 255] ∧
    (0xFE : Byte).toNat ∉ [0, 1, 2, 3, 4, 5, 6, 7, 16, 17, 18, 19, 20, 21, 255] := by decide

theorem witness_ReservedWordsAreRefused :
    ({ off50 with trace := [0x0800] } : State).trace = 0x0800 :: [] ∧ 8 ≤ (0x0800 : EventWord).toNat / 256 ∧
    (0x0FFF : EventWord).toNat / 256 ≤ 15 ∧ 22 ≤ (0x1600 : EventWord).toNat / 256 ∧ (0xFEFF : EventWord).toNat / 256 ≤ 254 :=
  ⟨rfl, by decide, by decide, by decide, by decide⟩

theorem witness_StepRunsTheDecodedOperation :
    (({ off50 with trace := [0x1000] } : State).trace = 0x1000 :: [] ∧ decode 0x1000 = .ok .fall) ∧
    (({ off50 with trace := [0x0800] } : State).trace = 0x0800 :: [] ∧ decode 0x0800 = .error (.reservedOpcode 8)) ∧
    off50.trace = [] := ⟨⟨rfl, rfl⟩, ⟨rfl, rfl⟩, rfl⟩

theorem witness_PlacedWordRunsNext : decodeTableWord 16 0x1296 = some (.sample false) := by decide

theorem witness_EveryOperationIsTotal :
    step { off50 with trace := [0x0800] } = .refused (.reservedOpcode 8) := rfl

theorem witness_wf_with_reference_half_period : Config.c60.wf = true ∧ Config.c60.halfPeriodUsec = Config.c60.refHalfPeriodUsec ∧
    (1 : Level) ≤ 99 := by decide

theorem witness_InterpolatorComputesAsWritten : 1 ≤ Config.c60.refHalfPeriodUsec ∧ Config.c60.halfPeriodUsec ≤ 65535 ∧
    Config.c60.wf = true ∧ (0 : Level) ≤ 100 := by decide

theorem witness_LagConditionIsOneInequality : Config.c50.tableEndsOk = true ∧ Config.c50.tableMonotone = true ∧
    Config.c50.refOk = true ∧ Config.c50.halfPeriodOk = true := by decide

theorem witness_SetLevelWritesLevelAndDelay : ∃ t, exec (.setLevel 150) off50 = .next t := ⟨_, rfl⟩

theorem witness_StepCommandsEqualSetLevel :
    (off50.lvl.toNat ≤ 100 ∧ off50.fd = fdValue Config.current (clampLevel off50.lvl.toNat)) ∧
    ∃ s : State, s.lvl.toNat = 100 ∧ s.fd = fdValue Config.current (clampLevel s.lvl.toNat) :=
  ⟨⟨by decide, rfl⟩, { off50 with lvl := 100, fd := fdValue Config.current 100 }, rfl, rfl⟩

theorem witness_level_commands : isLevelCommand (.setLevel 5) = true ∧ isLevelCommand .nop = true ∧
    Instr.tick ∈ [Instr.tick, .rise, .fireExpire, .stopExpire, .start, .stop] := by decide

theorem witness_LevelChangeTakesEffectAtNextFall : off50.run = true ∧ 1 ≤ (1 : Byte).toNat ∧ (1 : Byte).toNat ≤ 99 ∧
    1 ≤ (99 : Byte).toNat ∧ (99 : Byte).toNat ≤ 99 := ⟨rfl, by decide, by decide, by decide, by decide⟩

/-- A live state at a level that is armed, with the largest delay a counter holds, or any other. -/
def armable (fd : Int) : State := st 99 fd false none none true true

theorem witness_FallArmsOrForces : (armable 65535).fd.toInt ≤ 65535 ∧ (armable (-100)).fd.toInt ≤ 65535 := by decide

theorem witness_EdgeReplacesItsPendingTimer : (armable 65535).run = true ∧ (armable 65535).lvl.toNat ≠ 0 ∧
    (armable 65535).lvl.toNat ≠ 100 ∧ (armable 65535).fd.toInt ≤ 65535 ∧ (armable 65535).stop.pending = false ∧
    (∀ i ∈ [Instr.fall, .tick, .fall], i = .fall ∨ i = .tick) ∧ ∀ i ∈ [Instr.rise, .tick], i = .rise ∨ i = .tick := by decide

theorem witness_ArmLoadsAtLeastOne : (-100 : Int) ≤ 65535 ∧ (65535 : Int) ≤ 65535 ∧ 1 ≤ (1 : Level).val ∧ (99 : Level).val ≤ 99 := by
  decide

/-- Both timers pending, neither due; and each way of being due. -/
def timers (f s : Option Nat) : State := st 50 4900 true f s true true

theorem witness_OnlyListedOperationsCancel :
    (∃ t, exec .start (timers (some 5) (some 7)) = .next t ∧ (timers (some 5) (some 7)).fire.pending = true ∧
      t.fire.pending = false) ∧
    (∃ t, exec .shutdown (timers (some 5) (some 7)) = .next t ∧ (timers (some 5) (some 7)).stop.pending = true ∧
      t.stop.pending = false) := ⟨⟨_, rfl, rfl, rfl⟩, ⟨_, rfl, rfl, rfl⟩⟩

theorem witness_CancelledTimerNeverExpires :
    ((timers none (some 7)).fire.pending = false ∧ ∀ i ∈ [Instr.tick, .rise, .fireExpire], i ≠ .fall ∧ i ≠ .sample false) ∧
    ((timers (some 5) none).stop.pending = false ∧ ∀ i ∈ [Instr.tick, .fall, .stopExpire], i ≠ .rise ∧ i ≠ .sample true) := by
  decide

/-- One state for each clause of the TICK statement, at the counts 0, 1 and 2 where the clauses meet. -/
theorem witness_TickCountsThenExpires :
    (st 50 4900 false none none false true).run = false ∧
    (channelDue (timers (some 2) (some 2)).fire = false ∧ channelDue (timers (some 2) (some 2)).stop = false) ∧
    (channelDue (timers (some 1) (some 2)).fire = true ∧ channelDue (timers (some 1) none).stop = false) ∧
    (channelDue (timers (some 2) (some 0)).fire = false ∧ channelDue (timers (some 2) (some 0)).stop = true) ∧
    (channelDue (timers (some 1) (some 1)).fire = true ∧ channelDue (timers (some 1) (some 1)).stop = true) := by decide

theorem witness_ExpiryOrderDecidesTheOutput : (timers (some 1) (some 1)).run = true ∧
    channelDue (timers (some 1) (some 1)).fire = true ∧ channelDue (timers (some 1) (some 1)).stop = true ∧
    Config.c50.expiryOrder 0 = .fireFirst ∧ (stopFirst Config.c50).expiryOrder 0 = .stopFirst := by decide

theorem witness_StopTimerExpiresExactlyOnTime : (timers none (some 3)).run = true ∧ (timers none (some 3)).stop.pending = true ∧
    undisturbed Config.current .stop [.tick, .start, .tick] (timers none (some 3)) ∧
    ticksIn [.tick, .start, .tick] + 1 = (timers none (some 3)).stop.cnt.toNat :=
  ⟨rfl, rfl, ⟨rfl, fun _ _ => ⟨rfl, fun _ _ => ⟨rfl, fun _ _ => trivial⟩⟩⟩, by decide⟩

theorem witness_FireTimerExpiresExactlyOnTime : (timers (some 2) none).run = true ∧ (timers (some 2) none).fire.pending = true ∧
    undisturbed Config.current .fire [.tick, .setLevel 0] (timers (some 2) none) ∧
    ticksIn [.tick, .setLevel 0] + 1 = (timers (some 2) none).fire.cnt.toNat := by
  refine ⟨rfl, rfl, ⟨?_, fun _ _ => ⟨rfl, fun _ _ => trivial⟩⟩, by decide⟩
  simp [disturbs, disturbsFire, timers, st, chan, channelDue]

theorem witness_LastOverrideDecides : (st 100 0 false none none true true).lvl.toNat = 100 ∧
    (st 0 0 false none none true true).lvl.toNat = 0 ∧ (∀ i ∈ [Instr.start, .stop], i = .start ∨ i = .stop) ∧
    (timers (some 5) none).run = true ∧ channelDue (timers (some 5) none).stop = false := by decide

theorem witness_DeadBlockStaysDeadUntilReset : (st 50 4900 false none none false true).run = false ∧ Instr.fall ≠ .reset ∧
    Instr.reset ∉ [Instr.fall, .start, .tick] ∧ (timers (some 5) (some 7)).run = true := by decide

theorem witness_GatePinFollowsTheOutput : Config.c60.outActiveHigh = true ∧
    ({ Config.c60 with outActiveHigh := false } : Config).outActiveHigh = false ∧ ∃ t, exec .reset off50 = .next t :=
  ⟨rfl, rfl, _, rfl⟩

theorem witness_OutputChangesOnlyByListedPaths :
    (∃ t, exec .start off50 = .next t ∧ off50.out = false ∧ t.out = true) ∧
    (∃ t, exec .stop (timers none none) = .next t ∧ (timers none none).out = true ∧ t.out = false) :=
  ⟨⟨_, rfl, rfl, rfl⟩, ⟨_, rfl, rfl, rfl⟩⟩

theorem witness_LevelZeroNeverAsserts : (st 0 0 false none none true true).out = false ∧
    (st 0 0 false none none true true).fire.pending = false ∧ (st 0 0 false none none true true).lvl.toNat = 0 ∧
    ∀ i ∈ [Instr.sample false, .fall, .rise, .tick], isEdgeOrTick i = true := by decide

/-- One step for each clause of the writers' statement. -/
theorem witness_FieldsAreWrittenOnlyByTheirWriters :
    (∃ t, exec (.setLevel 9) off50 = .next t ∧ t.lvl ≠ off50.lvl) ∧
    (∃ t, exec .start off50 = .next t ∧ t.out ≠ off50.out) ∧
    (∃ t, exec .start (timers (some 5) none) = .next t ∧ t.fire.pending ≠ (timers (some 5) none).fire.pending) ∧
    (∃ t, exec .fall (armable 5) = .next t ∧ (armable 5).fire.pending = false ∧ t.fire.pending = true ∧
      t.fire.cnt ≠ (armable 5).fire.cnt) ∧
    (∃ t, exec .rise off50 = .next t ∧ off50.stop.pending = false ∧ t.stop.pending = true) ∧
    (∃ t, exec .tick (timers none (some 5)) = .next t ∧ t.stop.cnt ≠ (timers none (some 5)).stop.cnt) ∧
    (∃ t, exec .shutdown off50 = .next t ∧ t.run ≠ off50.run) ∧
    (∃ t, exec (.sample false) off50 = .next t ∧ t.zcPrev ≠ off50.zcPrev) ∧
    (∃ t, exec .getLevel off50 = .next t ∧ answerOf .getLevel off50 ≠ none) :=
  ⟨⟨_, rfl, by decide⟩, ⟨_, rfl, by decide⟩, ⟨_, rfl, by decide⟩, ⟨_, rfl, rfl, rfl, by decide⟩, ⟨_, rfl, rfl, rfl⟩,
    ⟨_, rfl, by decide⟩, ⟨_, rfl, by decide⟩, ⟨_, rfl, by decide⟩, ⟨_, rfl, by decide⟩⟩

theorem witness_AnswerAndTraceAreNeverRead : off50.lvl = (timers (some 5) none).lvl := rfl

theorem witness_ChannelsDoNotInterfere : Instr.fall ∈ [Instr.fall, .start, .stop, .fireExpire] := by decide

theorem witness_IdleCountsAreNeverRead :
    sameButIdleCounts off50 { off50 with fire := { pending := false, cnt := 9 } } :=
  ⟨⟨rfl, fun h => by cases h⟩, ⟨rfl, fun _ => rfl⟩, rfl⟩

theorem witness_LevelZeroKeepsAPendingFireTimer : (timers (some 1) none).run = true ∧ (timers (some 1) none).fire.pending = true ∧
    1 ≤ (timers (some 1) none).fire.cnt.toNat ∧ (timers (some 1) none).stop.pending = false := by decide

theorem witness_StaleStopTimerDeassertsAStart : (timers none (some 1)).run = true ∧ (timers none (some 1)).stop.pending = true ∧
    1 ≤ (timers none (some 1)).stop.cnt.toNat ∧ 0 < (timers none (some 1)).stop.cnt.toNat := by decide

theorem witness_NonPositiveDelayArmsOneMicrosecond : (withLag Config.c60 600).representable = true ∧
    fireDelay (withLag Config.c60 600) (clampLevel 99) ≤ 0 ∧ (timers none none).run = true ∧
    (timers none none).stop.pending = false := by decide

end Sys2Proof.Tests
end

section
/-! The state after reset (10_state.md R36). Its register `fd` holds FireDelay(75) exactly, because no fire delay of a
well-formed configuration leaves the range from -HALF_PERIOD_USEC to HALF_PERIOD_USEC. -/

namespace Sys2Proof.Machine

/-! ## The fire delay fits its register -/

/-- Nothing negative is subtracted in R96. -/
theorem fireDelay_le_halfPeriod (c : Config) (L : Level) : fireDelay c L ≤ c.halfPeriodUsec := by
  unfold fireDelay; omega

/-- The lag is below the half-period, by 00_scope.md R12 item 3 at level 1. -/
theorem lag_lt_halfPeriod {c : Config} (hc : c.wf = true) : c.sensorLagUsec < c.halfPeriodUsec := by
  obtain ⟨_, _, _, _, hlag⟩ := c.wf_iff.1 hc
  have h1 : 1 ≤ fireDelay c 1 := c.lagOk_iff.1 hlag 1 (by decide) (by decide)
  unfold fireDelay at h1; omega

/-- Level 0 has no scaled entry to subtract (40_delay_table.md R94). -/
theorem scaled_zero {c : Config} (hc : c.wf = true) : scaled c 0 = 0 := by
  obtain ⟨hends, -⟩ := c.wf_iff.1 hc
  simp [scaled, (c.tableEndsOk_iff.1 hends).1]

/-- The last entry scales to the whole half-period (40_delay_table.md R94). -/
theorem scaled_hundred {c : Config} (hc : c.wf = true) : scaled c 100 = c.halfPeriodUsec := by
  obtain ⟨hends, _, href, -⟩ := c.wf_iff.1 hc
  have hpos : 0 < c.refHalfPeriodUsec := of_decide_eq_true href
  rw [scaled, (c.tableEndsOk_iff.1 hends).2, Nat.mul_div_cancel_left _ hpos]

/-- The levels 1 to 99 are positive by R12 item 3; at the two ends the scaled entry is known. -/
theorem neg_halfPeriod_le_fireDelay {c : Config} (hc : c.wf = true) (L : Level) :
    -(c.halfPeriodUsec : Int) ≤ fireDelay c L := by
  obtain ⟨_, _, _, _, hlag⟩ := c.wf_iff.1 hc
  have hlt := lag_lt_halfPeriod hc
  by_cases h0 : L = 0
  · rw [h0, fireDelay, scaled_zero hc]; omega
  by_cases h100 : L = 100
  · rw [h100, fireDelay, scaled_hundred hc]; omega
  have hpos : 1 ≤ fireDelay c L := c.lagOk_iff.1 hlag L (Fin.val_ne_of_ne h0) (Fin.val_ne_of_ne h100)
  omega

/-- 40_delay_table.md R96: `fd` holds FireDelay without wrap-around. -/
theorem fdValue_toInt {c : Config} (hc : c.wf = true) (L : Level) : (fdValue c L).toInt = fireDelay c L := by
  obtain ⟨_, _, _, hhalf, _⟩ := c.wf_iff.1 hc
  have hmax := (c.halfPeriodOk_iff.1 hhalf).2
  have hlow := neg_halfPeriod_le_fireDelay hc L
  have hhigh := fireDelay_le_halfPeriod c L
  exact BitVec.toInt_ofInt_eq_self (by decide) (by norm_num; omega) (by norm_num; omega)

/-! ## The fields of the reset state and the label OFF -/

@[simp] theorem reset_lvl : State.reset.lvl = 75 := rfl
@[simp] theorem reset_fd : State.reset.fd = fdValue Config.current 75 := rfl
@[simp] theorem reset_out : State.reset.out = false := rfl
@[simp] theorem reset_fire_pending : State.reset.fire.pending = false := rfl
@[simp] theorem reset_stop_pending : State.reset.stop.pending = false := rfl
@[simp] theorem reset_run : State.reset.run = true := rfl
@[simp] theorem reset_zcPrev : State.reset.zcPrev = idleLine Config.current := rfl

theorem idleLine_iff (c : Config) : idleLine c = true ↔ c.zcPull = .up := beq_iff_eq

/-- 10_state.md R32: OFF is the label of the triple with nothing set, and of no other. -/
theorem stateLabel_eq_off_iff (s : State) : stateLabel s = .off ↔ triple s = (false, false, false) := by
  unfold stateLabel triple
  split_ifs with hstop hfire hout <;> simp [*]

/-- Settles O54: `fd` is exact because the machine's configuration is well formed; the other values are those of the
reset state's fields, whose triple has the label OFF. -/
theorem resetStateHasTheGivenValues : Obligations.ResetStateHasTheGivenValues :=
  ⟨reset_lvl, fdValue_toInt Config.current_wf 75, reset_out, reset_fire_pending, reset_stop_pending, reset_run,
    idleLine_iff Config.current, (stateLabel_eq_off_iff _).2 rfl⟩

end Sys2Proof.Machine
end

section
/-! The event word (30_encoding.md): which operation each opcode decodes to, which opcodes are reserved, what a step does on a
reserved word, and the words of the pseudo-operations. -/

namespace Sys2Proof

/-! ## The fields of a word as numbers (R70) -/

theorem opField_toNat (w : EventWord) : (opField w).toNat = w.toNat / 256 := by
  simp only [opField, BitVec.extractLsb'_toNat, Nat.shiftRight_eq_div_pow]
  omega

theorem immField_toNat (w : EventWord) : (immField w).toNat = w.toNat % 256 := by
  simp [immField, BitVec.extractLsb'_toNat]

theorem ofNat_div_eq_opField (w : EventWord) : BitVec.ofNat 8 (w.toNat / 256) = opField w := by
  rw [← opField_toNat, BitVec.ofNat_toNat, BitVec.setWidth_eq]

/-- The low byte of an encoded operation is its operand. -/
theorem encode_toNat_mod (i : Instr) : (encode i).toNat % 256 = (operandField i).toNat := by
  rw [← immField_toNat, encode, immField_append]

/-! ## The assigned opcodes (R71) -/

/-- An operation with its operand read from `imm`: whole (R72), bit 0 (R73), or not at all (R74). -/
def withImm (imm : Byte) : Instr → Instr
  | .setLevel _ => .setLevel imm
  | .increase _ => .increase imm
  | .decrease _ => .decrease imm
  | .sample _ => .sample (imm.getLsbD 0)
  | i => i

/-- The opcode of an operation, followed by any byte, decodes to that operation with the byte as its operand. -/
theorem decode_opcode_append (i : Instr) (imm : Byte) : decode (opcode i ++ imm) = .ok (withImm imm i) := by
  unfold decode
  rw [opField_append, immField_append]
  cases i <;> rfl

/-! ## The reserved opcodes (R75) -/

/-- R75: 0x08..0x0F and 0x16..0xFE. -/
def ReservedOpcode (op : Nat) : Prop := (8 ≤ op ∧ op ≤ 15) ∨ (22 ≤ op ∧ op ≤ 254)

/-- A byte is reserved exactly when it is not one of the fifteen opcodes of R71. -/
theorem reservedOpcode_iff_not_assigned (op : Byte) :
    ReservedOpcode op.toNat ↔ op.toNat ∉ [0, 1, 2, 3, 4, 5, 6, 7, 16, 17, 18, 19, 20, 21, 255] := by
  have hop := op.isLt
  simp only [ReservedOpcode, List.mem_cons, List.not_mem_nil, or_false]
  omega

/-- The decoder refuses exactly the words with a reserved opcode, and names it. -/
theorem decode_eq_error_iff (w : EventWord) (e : DecodeError) :
    decode w = .error e ↔ ReservedOpcode (opField w).toNat ∧ e = .reservedOpcode (opField w) := by
  rw [reservedOpcode_iff_not_assigned]
  unfold decode
  split <;> simp_all [eq_comm]

/-- Settles O2: a row of the opcode map is `decode_opcode_append` at its operation; the words of every other opcode are those
that `decode_eq_error_iff` describes. -/
theorem opcodeMapDecodesEveryOperand : Obligations.OpcodeMapDecodesEveryOperand := by
  have row := decode_opcode_append
  refine ⟨fun imm => ⟨row .nop imm, row .getLevel imm, row (.setLevel 0) imm, row (.increase 0) imm, row (.decrease 0) imm,
    row .start imm, row .stop imm, row .shutdown imm, row .fall imm, row .rise imm, row (.sample false) imm, row .tick imm,
    row .fireExpire imm, row .stopExpire imm, row .reset imm⟩, ?reserved, ?operand, fun _ => rfl, fun _ => rfl, fun _ _ => rfl⟩
  case reserved =>
    intro op imm hop
    rw [decode_eq_error_iff, opField_append]
    exact ⟨(reservedOpcode_iff_not_assigned op).2 hop, rfl⟩
  case operand =>
    simp [encode_toNat_mod, operandField]

/-! ## The words of the pseudo-operations (R78) -/

theorem assemble_op (i : Instr) : assemble [.op i] = [encode i] := rfl

theorem assemble_ticks (n : Nat) : assemble [.ticks n] = List.replicate n (encode .tick) := by
  simp [assemble, expand]

/-- Settles O6: the lines are those of `lineOf`; the word of a step decodes to it by `decode_opcode_append`. -/
theorem pseudoOperationsExpand : Obligations.PseudoOperationsExpand :=
  ⟨rfl, rfl, rfl, rfl, rfl, rfl, rfl, rfl, fun n => ⟨rfl, assemble_ticks n⟩, fun v =>
    ⟨assemble_op (.increase v), decode_opcode_append (.increase v) v,
      assemble_op (.decrease v), decode_opcode_append (.decrease v) v⟩⟩

namespace Machine

/-! ## A step on a reserved word (R75) -/

theorem fetchWord_of_trace_eq_cons {s : State} {w : EventWord} {rest : List EventWord} (h : s.trace = w :: rest) :
    fetchWord s = w := by
  simp [fetchWord, h]

theorem step_of_decode_error {s : State} {e : DecodeError} (h : decode (fetchWord s) = .error e) :
    step s = refuseWord e := by
  simp [step, h]

/-- Settles O5: both halves are `decode_eq_error_iff`, the second carried through the step's fetch. -/
theorem reservedWordsAreRefused : Obligations.ReservedWordsAreRefused := by
  intro w
  have hdecode : decode w = .error (.reservedOpcode (opField w)) ↔ ReservedOpcode (w.toNat / 256) := by
    rw [decode_eq_error_iff, opField_toNat]
    exact and_iff_left rfl
  rw [ofNat_div_eq_opField]
  refine ⟨hdecode, fun s rest htrace hreserved => ?_⟩
  rw [← fetchWord_of_trace_eq_cons htrace] at hdecode hreserved ⊢
  exact step_of_decode_error (hdecode.2 hreserved)

end Machine

end Sys2Proof
end

section
/-! The interpolator (40_delay_table.md): the order of the table, which scaling keeps, and the range of the fire delay. -/

namespace Sys2Proof.Machine

/-! ## The order of the table (R91) and of its scaled entries (R94) -/

/-- 00_scope.md R12 item 1 compares neighbours; the order extends to any two levels. -/
theorem lookup_toNat_monotone {c : Config} (hmono : c.tableMonotone = true) : Monotone fun L => (lookup c L).toNat :=
  Fin.monotone_iff_le_succ.2 (c.tableMonotone_iff.1 hmono)

/-- A common factor and a truncating division keep the order. -/
theorem scaled_monotone {c : Config} (hmono : c.tableMonotone = true) : Monotone (scaled c) := fun _ _ hLM =>
  Nat.div_le_div_right (Nat.mul_le_mul_right _ (lookup_toNat_monotone hmono hLM))

/-- No scaled entry exceeds the last one, which is the half-period. -/
theorem scaled_le_halfPeriod {c : Config} (hc : c.wf = true) (L : Level) : scaled c L ≤ c.halfPeriodUsec := by
  obtain ⟨_, hmono, -⟩ := c.wf_iff.1 hc
  calc scaled c L ≤ scaled c 100 := scaled_monotone hmono (Fin.le_last L)
    _ = c.halfPeriodUsec := scaled_hundred hc

/-- The product of R94 fits 32 unsigned bits: both factors fit 16. -/
theorem lookup_mul_halfPeriod_lt {c : Config} (hhalf : c.halfPeriodUsec ≤ 65535) (L : Level) :
    (lookup c L).toNat * c.halfPeriodUsec < 2 ^ 32 :=
  calc (lookup c L).toNat * c.halfPeriodUsec ≤ 65535 * 65535 :=
        Nat.mul_le_mul (Nat.le_pred_of_lt (lookup c L).isLt) hhalf
    _ < 2 ^ 32 := by norm_num

/-! ## The range of the fire delay (R96) -/

/-- The difference HALF_PERIOD_USEC - Scaled(L) is never negative. -/
theorem neg_sensorLag_le_fireDelay {c : Config} (hc : c.wf = true) (L : Level) :
    -(c.sensorLagUsec : Int) ≤ fireDelay c L := by
  have hscaled := scaled_le_halfPeriod hc L
  unfold fireDelay; omega

/-- Settles O15: the register is exact (`fdValue_toInt`), so its bounds are those of the fire delay. -/
theorem delayRegisterHoldsFireDelay : Obligations.DelayRegisterHoldsFireDelay := by
  intro c hc L
  rw [fdValue_toInt hc]
  exact ⟨rfl, neg_sensorLag_le_fireDelay hc L, fireDelay_le_halfPeriod c L⟩

/-- Settles O11: the three functions are their formulas; the content is the width of the product, the order of the table and
the register's exactness. -/
theorem interpolatorComputesAsWritten : Obligations.InterpolatorComputesAsWritten := by
  refine ⟨fun c L _ => ⟨rfl, rfl, fun hhalf => lookup_mul_halfPeriod_lt hhalf L, rfl⟩, fun c hc => ?_⟩
  obtain ⟨hends, hmono, -⟩ := c.wf_iff.1 hc
  obtain ⟨hzero, hhundred⟩ := c.tableEndsOk_iff.1 hends
  exact ⟨BitVec.eq_of_toNat_eq hzero, hhundred, fun L =>
    ⟨fdValue_toInt hc L, fun _ hLM => BitVec.le_def.2 (lookup_toNat_monotone hmono hLM)⟩⟩

end Sys2Proof.Machine
end

section
/-! Runs and frames: an invariant carried along a run, a repeated operation, and the fields that neither an edge nor a
timer writes. -/

namespace Sys2Proof.Machine

/-! ## Runs -/

@[simp] theorem runOps_singleton (i : Instr) (s : State) : runOps [i] s = exec i s := by
  cases h : exec i s <;> simp [runOps, h]

/-- What every operation of a list keeps, from a next state to a next state, holds at the end of its run. -/
theorem runOps_keeps {P : State → Prop} {is : List Instr}
    (hkeeps : ∀ i ∈ is, ∀ s, P s → ∃ t, exec i s = .next t ∧ P t) {s : State} (hs : P s) :
    ∃ t, runOps is s = .next t ∧ P t := by
  induction is generalizing s with
  | nil => exact ⟨s, rfl, hs⟩
  | cons i is ih =>
    rw [List.forall_mem_cons] at hkeeps
    obtain ⟨hi, his⟩ := hkeeps
    obtain ⟨u, hu, hPu⟩ := hi s hs
    rw [runOps_cons_next i is s u hu]
    exact ih his hPu

/-- An operation that no longer changes the state it led to can be repeated any number of times. -/
theorem runOps_replicate_succ_of_fixed {i : Instr} {s t : State} (hs : exec i s = .next t) (ht : exec i t = .next t)
    (n : Nat) : runOps (List.replicate (n + 1) i) s = .next t := by
  have hfixed : ∀ n, runOps (List.replicate n i) t = .next t := by
    intro n
    induction n with
    | zero => rfl
    | succ n ih => rw [List.replicate_succ, runOps_cons_next i _ t t ht, ih]
  rw [List.replicate_succ, runOps_cons_next i _ s t hs, hfixed n]

/-! ## The fields that edges and timers leave alone -/

/-- The state with the output, both channels and the count of free values blanked: what is left are the fields that neither
an edge nor a timer writes (`lvl`, `fd`, `run`, `zc_prev` and the words to come). -/
def settings (s : State) : State :=
  { s with out := false, fire := { pending := false, cnt := 0 }, stop := { pending := false, cnt := 0 }, freeSeq := 0 }

theorem lvl_eq_of_settings_eq {s t : State} (h : settings t = settings s) : t.lvl = s.lvl :=
  show (settings t).lvl = (settings s).lvl from congrArg State.lvl h
theorem fd_eq_of_settings_eq {s t : State} (h : settings t = settings s) : t.fd = s.fd :=
  show (settings t).fd = (settings s).fd from congrArg State.fd h
theorem run_eq_of_settings_eq {s t : State} (h : settings t = settings s) : t.run = s.run :=
  show (settings t).run = (settings s).run from congrArg State.run h

@[simp] theorem settings_withChannel (ch : ChannelId) (x : Channel) (s : State) :
    settings (withChannel ch x s) = settings s := by
  cases ch <;> rfl

@[simp] theorem settings_arm (ch : ChannelId) (d : Int) (s : State) : settings (arm ch d s) = settings s :=
  settings_withChannel ch _ s

@[simp] theorem settings_cancel (ch : ChannelId) (s : State) : settings (cancel ch s) = settings s :=
  settings_withChannel ch _ s

@[simp] theorem settings_drive (b : Bool) (s : State) : settings (drive b s) = settings s := rfl

@[simp] theorem settings_countBoth (s : State) : settings (countBoth s) = settings s := rfl

/-- 41_zero_cross.md R113: FALL never touches `lvl`, `fd`, `run` or `zc_prev`. -/
@[simp] theorem settings_fallOn (s : State) : settings (fallOn s) = settings s := by
  unfold fallOn forceOutput
  split_ifs <;> simp

/-- 41_zero_cross.md R114, as for FALL. -/
@[simp] theorem settings_riseOn (c : Config) (s : State) : settings (riseOn c s) = settings s := by
  unfold riseOn
  split <;> simp

@[simp] theorem settings_fireExpireOn (s : State) : settings (fireExpireOn s) = settings s := by
  unfold fireExpireOn
  split <;> simp

@[simp] theorem settings_stopExpireOn (c : Config) (s : State) : settings (stopExpireOn c s) = settings s := by
  unfold stopExpireOn
  split_ifs <;> simp

@[simp] theorem settings_expireIfDue (c : Config) (ch : ChannelId) (due : Bool) (s : State) :
    settings (expireIfDue c ch due s) = settings s := by
  cases due <;> cases ch <;> simp [expireIfDue]

@[simp] theorem settings_expireInOrder (c : Config) (order : ExpiryOrder) (dueFire dueStop : Bool) (s : State) :
    settings (expireInOrder c order dueFire dueStop s) = settings s := by
  cases order <;> simp [expireInOrder]

/-- The draw advances the count of free values and nothing else. -/
@[simp] theorem settings_drawOrder (c : Config) (dueFire dueStop : Bool) (s : State) :
    settings (drawOrder c dueFire dueStop s).2 = settings s := by
  unfold drawOrder
  split <;> rfl

/-- 42_timer.md R123: TICK touches the timers and, by an expiry, the output. -/
@[simp] theorem settings_tickOn (c : Config) (s : State) : settings (tickOn c s) = settings s := by
  unfold tickOn
  split <;> simp

/-! ## TICK while the stop channel is not due (R123) -/

theorem exec_tick (s : State) : exec .tick s = .next (tickOn Config.current s) := rfl

theorem channelDue_of_idle {ch : Channel} (hidle : ch.pending = false) : channelDue ch = false := by
  simp [channelDue, hidle]

theorem channelDue_of_one_lt {ch : Channel} (hcnt : 1 < ch.cnt.toNat) : channelDue ch = false := by
  simp [channelDue, hcnt]

/-- A pending count above 1 goes down by one. -/
theorem channelCount_cnt_toNat_of_one_lt {ch : Channel} (hpending : ch.pending = true) (hcnt : 1 < ch.cnt.toNat) :
    (channelCount ch).cnt.toNat = ch.cnt.toNat - 1 := by
  rw [channelCount_cnt_toNat, if_pos ⟨hpending, hcnt⟩]

@[simp] theorem fireExpireOn_stop (s : State) : (fireExpireOn s).stop = s.stop := by
  unfold fireExpireOn
  split <;> rfl

/-- No order has to be drawn: both channels count, and the fire channel expires if it is due. -/
theorem tickOn_of_stop_not_due {c : Config} {s : State} (hrun : s.run = true) (hstop : channelDue s.stop = false) :
    tickOn c s = expireIfDue c .fire (channelDue s.fire) (countBoth s) := by
  simp [tickOn, drawOrder, expireInOrder, expireIfDue, hrun, hstop]

theorem tickOn_of_not_due {c : Config} {s : State} (hrun : s.run = true) (hfire : channelDue s.fire = false)
    (hstop : channelDue s.stop = false) : tickOn c s = countBoth s := by
  simp [tickOn_of_stop_not_due hrun hstop, hfire, expireIfDue]

/-- The fire expiry leaves the stop channel alone, so a stop channel that is not due only counts. -/
theorem tickOn_stop_of_not_due {c : Config} {s : State} (hrun : s.run = true) (hstop : channelDue s.stop = false) :
    (tickOn c s).stop = channelCount s.stop := by
  rw [tickOn_of_stop_not_due hrun hstop]
  cases channelDue s.fire <;> simp [expireIfDue, countBoth]

/-- R124, "not before": over fewer TICKs than its count a pending stop channel stays pending. -/
theorem stop_pending_over_ticks {k : Nat} {s : State} (hrun : s.run = true) (hpending : s.stop.pending = true)
    (hk : k < s.stop.cnt.toNat) :
    ∃ u, runOps (List.replicate k .tick) s = .next u ∧ u.stop.pending = true := by
  induction k generalizing s with
  | zero => exact ⟨s, rfl, hpending⟩
  | succ k ih =>
    have hcnt : 1 < s.stop.cnt.toNat := by omega
    have hstop := tickOn_stop_of_not_due (c := Config.current) hrun (channelDue_of_one_lt hcnt)
    rw [List.replicate_succ, runOps_cons_next _ _ _ _ (exec_tick s)]
    apply ih
    · rw [run_eq_of_settings_eq (settings_tickOn _ s), hrun]
    · rw [hstop, channelCount_pending, hpending]
    · rw [hstop, channelCount_cnt_toNat_of_one_lt hpending hcnt]
      omega

/-- The same for the fire channel, while no stop expiry can cancel it (R127) or change the output. -/
theorem fire_pending_over_ticks {k : Nat} {s : State} (hrun : s.run = true) (hpending : s.fire.pending = true)
    (hstop : s.stop.pending = false) (hk : k < s.fire.cnt.toNat) :
    ∃ u, runOps (List.replicate k .tick) s = .next u ∧ u.fire.pending = true ∧ u.out = s.out := by
  induction k generalizing s with
  | zero => exact ⟨s, rfl, hpending, rfl⟩
  | succ k ih =>
    have hcnt : 1 < s.fire.cnt.toNat := by omega
    have htick : exec .tick s = .next (countBoth s) := by
      rw [exec_tick, tickOn_of_not_due hrun (channelDue_of_one_lt hcnt) (channelDue_of_idle hstop)]
    have hcounted : k < (countBoth s).fire.cnt.toNat := by
      have hdown : (countBoth s).fire.cnt.toNat = _ := channelCount_cnt_toNat_of_one_lt hpending hcnt
      omega
    rw [List.replicate_succ, runOps_cons_next _ _ _ _ htick]
    exact ih hrun ((channelCount_pending s.fire).trans hpending) ((channelCount_pending s.stop).trans hstop) hcounted

end Sys2Proof.Machine
end

section
/-! The edge events and the edge detector (41_zero_cross.md). -/

namespace Sys2Proof.Machine

/-! ## FALL (R113), one rule per branch -/

theorem exec_fall (s : State) : exec .fall s = .next (fallOn s) := rfl

theorem fallOn_of_dead {s : State} (hrun : s.run = false) : fallOn s = s := by
  simp [fallOn, hrun]

theorem fallOn_of_hundred {s : State} (hrun : s.run = true) (h100 : s.lvl.toNat = 100) :
    fallOn s = forceOutput true s := by
  simp [fallOn, hrun, h100]

theorem fallOn_of_zero {s : State} (hrun : s.run = true) (h0 : s.lvl.toNat = 0) : fallOn s = forceOutput false s := by
  simp [fallOn, hrun, h0]

theorem fallOn_of_armed {s : State} (hrun : s.run = true) (h0 : s.lvl.toNat ≠ 0) (h100 : s.lvl.toNat ≠ 100) :
    fallOn s = arm .fire s.fd.toInt s := by
  simp only [fallOn, if_pos hrun, if_neg h100, if_neg h0]

/-- R113: FALL never touches the stop channel. -/
@[simp] theorem fallOn_stop (s : State) : (fallOn s).stop = s.stop := by
  unfold fallOn
  split_ifs <;> rfl

/-- R115: FALL reads only what it does not write, so a second one writes the same again. -/
theorem fallOn_fallOn (s : State) : fallOn (fallOn s) = fallOn s := by
  cases hrun : s.run with
  | false => rw [fallOn_of_dead hrun, fallOn_of_dead hrun]
  | true =>
    by_cases h100 : s.lvl.toNat = 100
    · rw [fallOn_of_hundred hrun h100]
      exact fallOn_of_hundred hrun h100
    by_cases h0 : s.lvl.toNat = 0
    · rw [fallOn_of_zero hrun h0]
      exact fallOn_of_zero hrun h0
    rw [fallOn_of_armed hrun h0 h100]
    exact fallOn_of_armed hrun h0 h100

/-- Settles O27: the branches of R113 in turn, with the count that ARM loads. -/
theorem fallArmsOrForces : Obligations.FallArmsOrForces := by
  refine ⟨rfl, fun s => ⟨armCount s.fd.toInt, armCount_toNat _, ?_⟩⟩
  rw [exec_fall]
  split_ifs with hdead h100 h0
  · rw [fallOn_of_dead hdead]
  all_goals have hrun : s.run = true := Bool.eq_true_of_not_eq_false hdead
  · rw [fallOn_of_hundred hrun h100]
    rfl
  · rw [fallOn_of_zero hrun h0]
    rfl
  · rw [fallOn_of_armed hrun h0 h100]
    rfl

/-! ## RISE (R114) -/

theorem exec_rise (s : State) : exec .rise s = .next (riseOn Config.current s) := rfl

theorem riseOn_of_dead {c : Config} {s : State} (hrun : s.run = false) : riseOn c s = s := by
  simp [riseOn, hrun]

theorem riseOn_of_live {c : Config} {s : State} (hrun : s.run = true) : riseOn c s = arm .stop c.stopDelayUsec s := by
  simp [riseOn, hrun]

/-- R115, as for FALL. -/
theorem riseOn_riseOn (c : Config) (s : State) : riseOn c (riseOn c s) = riseOn c s := by
  cases hrun : s.run with
  | false => rw [riseOn_of_dead hrun, riseOn_of_dead hrun]
  | true =>
    rw [riseOn_of_live hrun]
    exact riseOn_of_live hrun

/-- 00_scope.md R9 and R12: half of a half-period that is at least 2 and fits the counter. -/
theorem stopDelayUsec_bounds {c : Config} (hc : c.wf = true) : 1 ≤ c.stopDelayUsec ∧ c.stopDelayUsec ≤ 65535 := by
  obtain ⟨_, _, _, hhalf, _⟩ := c.wf_iff.1 hc
  have hbounds := c.halfPeriodOk_iff.1 hhalf
  unfold Config.stopDelayUsec; omega

/-- The stop delay is loaded as it is. -/
theorem armCount_stopDelayUsec {c : Config} (hc : c.wf = true) :
    armCount c.stopDelayUsec = BitVec.ofNat 16 c.stopDelayUsec := by
  have hpos : (1 : Int) ≤ c.stopDelayUsec := by exact_mod_cast (stopDelayUsec_bounds hc).1
  rw [armCount, max_eq_left hpos, BitVec.ofInt_natCast]

theorem armCount_stopDelayUsec_toNat {c : Config} (hc : c.wf = true) :
    (armCount c.stopDelayUsec).toNat = c.stopDelayUsec := by
  have hmax := (stopDelayUsec_bounds hc).2
  rw [armCount_stopDelayUsec hc, BitVec.toNat_ofNat, Nat.mod_eq_of_lt (by omega)]

/-- Settles O28: ARM of the stop delay, which needs no clamp. -/
theorem riseArmsTheStopTimer : Obligations.RiseArmsTheStopTimer := by
  refine ⟨rfl, fun s => ?_⟩
  rw [exec_rise]
  split_ifs with hdead
  · rw [riseOn_of_dead hdead]
  · rw [riseOn_of_live (Bool.eq_true_of_not_eq_false hdead), arm, armCount_stopDelayUsec Config.current_wf]
    rfl

/-! ## SAMPLE (R111) -/

theorem exec_sample (b : Bool) (s : State) : exec (.sample b) s = .next (sampleOn Config.current b s) := rfl

theorem sampleOn_of_dead {c : Config} {s : State} (b : Bool) (hrun : s.run = false) : sampleOn c b s = s := by
  simp [sampleOn, hrun]

theorem sampleOn_of_falling {c : Config} {s : State} (hrun : s.run = true) (hzc : s.zcPrev = true) :
    sampleOn c false s = fallOn { s with zcPrev := false } := by
  simp [sampleOn, hrun, hzc]

theorem sampleOn_of_rising {c : Config} {s : State} (hrun : s.run = true) (hzc : s.zcPrev = false) :
    sampleOn c true s = riseOn c { s with zcPrev := true } := by
  simp [sampleOn, hrun, hzc]

/-- An equal sample writes back the value `zc_prev` already has. -/
theorem sampleOn_of_equal (c : Config) (s : State) : sampleOn c s.zcPrev s = s := by
  simp [sampleOn]

/-- Settles O29: a dead block, then the two changes of the line and the equal sample. -/
theorem sampleDetectsTheEdges : Obligations.SampleDetectsTheEdges := by
  refine ⟨rfl, rfl, fun b s => ⟨?_, _, exec_sample b s⟩⟩
  rw [exec_sample]
  split_ifs with hdead hfalling hrising
  · rw [sampleOn_of_dead b hdead]
  all_goals have hrun : s.run = true := Bool.eq_true_of_not_eq_false hdead
  · obtain ⟨hzc, rfl⟩ := hfalling
    rw [sampleOn_of_falling hrun hzc, exec_fall]
  · obtain ⟨hzc, rfl⟩ := hrising
    rw [sampleOn_of_rising hrun hzc, exec_rise]
  · have hequal : b = s.zcPrev := by cases b <;> simp_all
    rw [hequal, sampleOn_of_equal]

/-! ## An edge on a pending channel (R115) -/

/-- The state an armed FALL ends in, after any FALLs and TICKs: the fire channel holds the new delay, and a stop channel that
was idle still is. -/
theorem fall_arms_after_falls_and_ticks {is : List Instr} {s : State} (hrun : s.run = true) (h0 : s.lvl.toNat ≠ 0)
    (h100 : s.lvl.toNat ≠ 100) (his : ∀ i ∈ is, i = .fall ∨ i = .tick) :
    ∃ t, runOps (is ++ [.fall]) s = .next t ∧ t.run = true ∧
      t.fire = { pending := true, cnt := armCount s.fd.toInt } ∧ (s.stop.pending = false → t.stop.pending = false) := by
  obtain ⟨u, hu, hset, hstop⟩ : ∃ u, runOps is s = .next u ∧
      (settings u = settings s ∧ (s.stop.pending = false → u.stop.pending = false)) := by
    refine runOps_keeps (fun i hi u hu => ?_) ⟨rfl, id⟩
    obtain ⟨hset, hstop⟩ := hu
    obtain rfl | rfl := his i hi
    · exact ⟨_, exec_fall u, by rw [settings_fallOn, hset], by rwa [fallOn_stop]⟩
    · refine ⟨_, exec_tick u, by rw [settings_tickOn, hset], fun hidle => ?_⟩
      have hurun : u.run = true := (run_eq_of_settings_eq hset).trans hrun
      rw [tickOn_stop_of_not_due hurun (channelDue_of_idle (hstop hidle)), channelCount_pending, hstop hidle]
  have hurun : u.run = true := (run_eq_of_settings_eq hset).trans hrun
  refine ⟨arm .fire u.fd.toInt u, ?_, hurun, by rw [arm_fire_fire, fd_eq_of_settings_eq hset], hstop⟩
  rw [← lvl_eq_of_settings_eq hset] at h0 h100
  rw [runOps_append_next _ _ _ _ hu, runOps_singleton, exec_fall, fallOn_of_armed hurun h0 h100]

/-- The same for RISE and the stop channel. -/
theorem rise_arms_after_rises_and_ticks {is : List Instr} {s : State} (hrun : s.run = true)
    (his : ∀ i ∈ is, i = .rise ∨ i = .tick) :
    ∃ t, runOps (is ++ [.rise]) s = .next t ∧ t.run = true ∧
      t.stop = { pending := true, cnt := armCount Config.current.stopDelayUsec } := by
  obtain ⟨u, hu, hset⟩ : ∃ u, runOps is s = .next u ∧ settings u = settings s := by
    refine runOps_keeps (fun i hi u hset => ?_) rfl
    obtain rfl | rfl := his i hi
    · exact ⟨_, exec_rise u, by rw [settings_riseOn, hset]⟩
    · exact ⟨_, exec_tick u, by rw [settings_tickOn, hset]⟩
  have hurun : u.run = true := (run_eq_of_settings_eq hset).trans hrun
  refine ⟨arm .stop Config.current.stopDelayUsec u, ?_, hurun, rfl⟩
  rw [runOps_append_next _ _ _ _ hu, runOps_singleton, exec_rise, riseOn_of_live hurun]

/-- Settles O30: an edge overwrites its channel; a burst repeats a fixed point; after the last edge the channel holds the new
delay (`fall_arms_after_falls_and_ticks`), which fewer TICKs do not use up (`fire_pending_over_ticks`); and so for RISE. -/
theorem edgeReplacesItsPendingTimer : Obligations.EdgeReplacesItsPendingTimer := by
  refine ⟨fun s x hrun h0 h100 => ?fallOverwrites, fun s x hrun => ?riseOverwrites, fun s n => ⟨?falls, ?rises⟩,
    fun is s hrun h0 h100 hfd his => ?lastFall, fun is s hrun his => ?lastRise⟩
  case fallOverwrites =>
    have harmed := fallOn_of_armed (s := { s with fire := x }) hrun h0 h100
    rw [exec_fall, exec_fall, harmed, fallOn_of_armed hrun h0 h100]
    rfl
  case riseOverwrites =>
    have harmed := riseOn_of_live (c := Config.current) (s := { s with stop := x }) hrun
    rw [exec_rise, exec_rise, harmed, riseOn_of_live hrun]
    rfl
  case falls =>
    exact runOps_replicate_succ_of_fixed (exec_fall s) (by rw [exec_fall, fallOn_fallOn]) n
  case rises =>
    exact runOps_replicate_succ_of_fixed (exec_rise s) (by rw [exec_rise, riseOn_riseOn]) n
  case lastFall =>
    obtain ⟨t, ht, htrun, hfire, hstop⟩ := fall_arms_after_falls_and_ticks hrun h0 h100 his
    have hpending : t.fire.pending = true := by rw [hfire]
    refine ⟨t, ht, hpending, by rw [hfire, armCount_toNat _ hfd], fun hidle k hk => ?_⟩
    exact fire_pending_over_ticks htrun hpending (hstop hidle) hk
  case lastRise =>
    obtain ⟨t, ht, htrun, hstop⟩ := rise_arms_after_rises_and_ticks hrun his
    have hpending : t.stop.pending = true := by rw [hstop]
    refine ⟨t, ht, hpending, by rw [hstop, armCount_stopDelayUsec_toNat Config.current_wf], fun k hk => ?_⟩
    exact stop_pending_over_ticks htrun hpending hk

end Sys2Proof.Machine
end

section
/-! The timers (42_timer.md): what ARM loads, what the two expiries write, and TICK in each case of which channels are due. -/

namespace Sys2Proof.Machine

/-! ## ARM (R121) -/

/-- R12 items 2 and 3: a delay that FALL arms at levels 1 to 99 needs no clamp and fits the counter. -/
theorem fireDelay_bounds_of_armed {c : Config} (hc : c.wf = true) {L : Level} (h1 : 1 ≤ L.val) (h99 : L.val ≤ 99) :
    1 ≤ fireDelay c L ∧ fireDelay c L ≤ 65535 := by
  obtain ⟨_, _, _, hhalf, hlag⟩ := c.wf_iff.1 hc
  have hmax := (c.halfPeriodOk_iff.1 hhalf).2
  have hle := fireDelay_le_halfPeriod c L
  exact ⟨c.lagOk_iff.1 hlag L (by omega) (by omega), by omega⟩

/-- R121: within these bounds ARM loads the delay as it is. -/
theorem armCount_fdValue_toNat {c : Config} (hc : c.wf = true) {L : Level} (h1 : 1 ≤ L.val) (h99 : L.val ≤ 99) :
    ((armCount (fdValue c L).toInt).toNat : Int) = fireDelay c L := by
  obtain ⟨hpos, hmax⟩ := fireDelay_bounds_of_armed hc h1 h99
  rw [fdValue_toInt hc, armCount_toNat _ hmax, max_eq_left hpos]

/-- Settles O31: the count is `armCount`, which `armCount_toNat` reads, and the machine's configuration is well formed. -/
theorem armLoadsAtLeastOne : Obligations.ArmLoadsAtLeastOne := by
  refine ⟨fun d s hd => ?_, fun _ => armCount_fdValue_toNat Config.current_wf,
    armCount_stopDelayUsec_toNat Config.current_wf⟩
  have hcount := armCount_toNat d hd
  exact ⟨⟨armCount d, hcount, rfl⟩, ⟨armCount d, hcount, rfl⟩⟩

/-! ## FIRE_EXPIRE (R125) -/

theorem exec_fireExpire (s : State) : exec .fireExpire s = .next (fireExpireOn s) := rfl

theorem fireExpireOn_of_pending {s : State} (hrun : s.run = true) (hpending : s.fire.pending = true) :
    fireExpireOn s = { s with fire := { s.fire with pending := false }, out := true } := by
  rw [fireExpireOn, if_pos (by rw [hrun, hpending]; rfl)]
  rfl

theorem fireExpireOn_of_not_pending {s : State} (h : ¬ (s.run = true ∧ s.fire.pending = true)) : fireExpireOn s = s := by
  rw [fireExpireOn, if_neg (by rwa [Bool.and_eq_true])]

/-- Settles O36: a live pending channel, and every other state. -/
theorem fireExpireAssertsWhenPending : Obligations.FireExpireAssertsWhenPending := by
  refine ⟨rfl, fun s => ?_⟩
  by_cases h : s.run = true ∧ s.fire.pending = true
  · rw [if_pos h, exec_fireExpire, fireExpireOn_of_pending h.1 h.2]
  · rw [if_neg h, exec_fireExpire, fireExpireOn_of_not_pending h]

/-! ## STOP_EXPIRE (R126, R127) -/

theorem exec_stopExpire (s : State) : exec .stopExpire s = .next (stopExpireOn Config.current s) := rfl

/-- The fire channel is cancelled exactly under STOP_EXPIRY_CANCELS_FIRE. -/
theorem stopExpireOn_of_pending {c : Config} {s : State} (hrun : s.run = true) (hpending : s.stop.pending = true) :
    stopExpireOn c s =
      { s with
        stop := { s.stop with pending := false }
        fire := if c.stopExpiryCancelsFire = true then { s.fire with pending := false } else s.fire
        out := false } := by
  rw [stopExpireOn, if_pos (by rw [hrun, hpending]; rfl)]
  cases c.stopExpiryCancelsFire <;> rfl

theorem stopExpireOn_of_not_pending {c : Config} {s : State} (h : ¬ (s.run = true ∧ s.stop.pending = true)) :
    stopExpireOn c s = s := by
  rw [stopExpireOn, if_neg (by rwa [Bool.and_eq_true])]

/-- Settles O37: a live pending channel, and every other state. -/
theorem stopExpireDeassertsWhenPending : Obligations.StopExpireDeassertsWhenPending := by
  refine ⟨rfl, fun s => ?_⟩
  by_cases h : s.run = true ∧ s.stop.pending = true
  · rw [if_pos h, exec_stopExpire, stopExpireOn_of_pending h.1 h.2]
  · rw [if_neg h, exec_stopExpire, stopExpireOn_of_not_pending h]

/-! ## Phase 1 of TICK (R123) -/

theorem channelDue_eq_false_iff (ch : Channel) :
    channelDue ch = false ↔ ¬ (ch.pending = true ∧ ch.cnt.toNat ≤ 1) := by
  rw [← channelDue_iff, Bool.not_eq_true]

/-- A channel that is due has nothing left to count. -/
theorem channelCount_of_due {ch : Channel} (hdue : channelDue ch = true) : channelCount ch = ch := by
  obtain ⟨-, hcnt⟩ := (channelDue_iff ch).1 hdue
  simp [channelCount, Nat.not_lt.2 hcnt]

/-- Counting down is subtraction of numbers: the count it takes one from is above 1. -/
theorem channelCount_eq (ch : Channel) :
    channelCount ch =
      if ch.pending = true ∧ 1 < ch.cnt.toNat then { ch with cnt := BitVec.ofNat 16 (ch.cnt.toNat - 1) } else ch := by
  simp only [channelCount, Bool.and_eq_true, decide_eq_true_eq]
  split_ifs with h
  · congr 1
    bv_omega
  · rfl

/-! ## TICK, one rule per case of which channels are due (R123) -/

theorem tickOn_of_dead {c : Config} {s : State} (hrun : s.run = false) : tickOn c s = s := by
  simp [tickOn, hrun]

theorem tickOn_of_fire_due {c : Config} {s : State} (hrun : s.run = true) (hfire : channelDue s.fire = true)
    (hstop : channelDue s.stop = false) :
    tickOn c s =
      { s with fire := { s.fire with pending := false }, stop := channelCount s.stop, out := true } := by
  have hpending : (countBoth s).fire.pending = true :=
    (channelCount_pending s.fire).trans ((channelDue_iff s.fire).1 hfire).1
  calc tickOn c s
    _ = fireExpireOn (countBoth s) := by rw [tickOn_of_stop_not_due hrun hstop, hfire]; rfl
    _ = _ := by rw [fireExpireOn_of_pending (s := countBoth s) hrun hpending, countBoth, channelCount_of_due hfire]

theorem tickOn_of_stop_due {c : Config} {s : State} (hrun : s.run = true) (hfire : channelDue s.fire = false)
    (hstop : channelDue s.stop = true) :
    tickOn c s =
      { s with
        fire := if c.stopExpiryCancelsFire = true then { channelCount s.fire with pending := false } else channelCount s.fire
        stop := { s.stop with pending := false }
        out := false } := by
  have hpending : (countBoth s).stop.pending = true :=
    (channelCount_pending s.stop).trans ((channelDue_iff s.stop).1 hstop).1
  calc tickOn c s
    _ = stopExpireOn c (countBoth s) := by simp [tickOn, drawOrder, expireInOrder, expireIfDue, hrun, hfire, hstop]
    _ = _ := by rw [stopExpireOn_of_pending (s := countBoth s) hrun hpending, countBoth, channelCount_of_due hstop]

/-- With both due nothing is counted, and an order is drawn (R128). -/
theorem tickOn_of_both_due {c : Config} {s : State} (hrun : s.run = true) (hfire : channelDue s.fire = true)
    (hstop : channelDue s.stop = true) :
    tickOn c s = expireInOrder c (c.expiryOrder s.freeSeq) true true { s with freeSeq := s.freeSeq + 1 } := by
  simp [tickOn, drawOrder, countBoth, hrun, hfire, hstop, channelCount_of_due]

/-- R128: the stop expiry runs last and de-asserts. -/
theorem expireInOrder_fireFirst {c : Config} {s : State} (hrun : s.run = true) (hfire : s.fire.pending = true)
    (hstop : s.stop.pending = true) :
    expireInOrder c .fireFirst true true s =
      { s with
        fire := { s.fire with pending := false }
        stop := { s.stop with pending := false }
        out := false } := by
  have horder : expireInOrder c .fireFirst true true s = stopExpireOn c (fireExpireOn s) := rfl
  rw [horder, fireExpireOn_of_pending hrun hfire, stopExpireOn_of_pending]
  · simp
  · exact hrun
  · exact hstop

/-- R128: the fire expiry runs last and asserts, unless the stop expiry has cancelled it (R127). -/
theorem expireInOrder_stopFirst {c : Config} {s : State} (hrun : s.run = true) (hfire : s.fire.pending = true)
    (hstop : s.stop.pending = true) :
    expireInOrder c .stopFirst true true s =
      { s with
        fire := { s.fire with pending := false }
        stop := { s.stop with pending := false }
        out := !c.stopExpiryCancelsFire } := by
  have horder : expireInOrder c .stopFirst true true s = fireExpireOn (stopExpireOn c s) := rfl
  rw [horder, stopExpireOn_of_pending hrun hstop]
  cases c.stopExpiryCancelsFire with
  | true => exact fireExpireOn_of_not_pending (by simp)
  | false => exact fireExpireOn_of_pending hrun hfire

/-- Settles O34: `tickOn` in its five cases; with both due the order is the one that is drawn. -/
theorem tickCountsThenExpires : Obligations.TickCountsThenExpires := by
  refine ⟨rfl, fun s => ?_⟩
  simp only [← channelCount_eq, ← channelDue_iff, Bool.not_eq_true, exec_tick]
  refine ⟨fun hrun => ?dead, fun hrun hfire hstop => ?noneDue, fun hrun hfire hstop => ?fireDue,
    fun hrun hfire hstop => ?stopDue, fun hrun hfire hstop => ?bothDue⟩
  case dead => rw [tickOn_of_dead hrun]
  case noneDue => rw [tickOn_of_not_due hrun hfire hstop, countBoth]
  case fireDue => rw [tickOn_of_fire_due hrun hfire hstop]
  case stopDue => rw [tickOn_of_stop_due hrun hfire hstop]
  case bothDue =>
    obtain ⟨hfirePending, -⟩ := (channelDue_iff s.fire).1 hfire
    obtain ⟨hstopPending, -⟩ := (channelDue_iff s.stop).1 hstop
    refine ⟨Config.current.expiryOrder s.freeSeq, s.freeSeq + 1, ?_⟩
    rw [tickOn_of_both_due hrun hfire hstop]
    cases Config.current.expiryOrder s.freeSeq with
    | fireFirst => exact congrArg _ (expireInOrder_fireFirst hrun hfirePending hstopPending)
    | stopFirst => exact congrArg _ (expireInOrder_stopFirst hrun hfirePending hstopPending)

end Sys2Proof.Machine
end

section
/-! The level commands (43_level.md): NOP, GET_LEVEL, and SET_LEVEL with the two commands that saturate into it. -/

namespace Sys2Proof.Machine

/-! ## NOP (R145) and GET_LEVEL (R141) -/

theorem exec_nop (s : State) : exec .nop s = .next s := rfl

theorem exec_getLevel (s : State) : exec .getLevel s = .next s := rfl

/-- Settles O18: the all-zero word is opcode 0x00 with operand 0x00, and only GET_LEVEL answers. -/
theorem nopChangesNothing : Obligations.NopChangesNothing :=
  ⟨decode_opcode_append .nop 0, fun s => ⟨exec_nop s, answerOf_eq .nop s⟩⟩

/-- Settles O19: the state stays, so the pin shows it next to the answer (`outPorts_next`). -/
theorem getLevelAnswersTheLevel : Obligations.GetLevelAnswersTheLevel := by
  refine ⟨decode_opcode_append .getLevel 0, fun s => ?_⟩
  have hanswer : answerOf .getLevel s = some s.lvl := answerOf_eq .getLevel s
  exact ⟨exec_getLevel s, hanswer, fun c => by rw [outPorts_next c _ s s (exec_getLevel s), hanswer]⟩

/-! ## SET_LEVEL (R142) -/

theorem exec_setLevel (v : Byte) (s : State) :
    exec (.setLevel v) s = .next (setLevelOn Config.current v.toNat s) := rfl

theorem setLevelOn_of_dead {c : Config} {s : State} (v : Nat) (hrun : s.run = false) : setLevelOn c v s = s := by
  simp [setLevelOn, hrun]

theorem setLevelOn_of_live {c : Config} {s : State} (v : Nat) (hrun : s.run = true) :
    setLevelOn c v s = writeLevel c (clampLevel v) s := by
  simp [setLevelOn, hrun]

/-- The write with both its registers spelt out; every other field keeps its value. -/
theorem writeLevel_clampLevel (c : Config) (v : Nat) (s : State) :
    writeLevel c (clampLevel v) s = { s with lvl := BitVec.ofNat 8 (min v 100), fd := fdValue c (clampLevel v) } := rfl

/-- R142: a second write of a level finds both registers as it leaves them. -/
@[simp] theorem writeLevel_writeLevel (c : Config) (L : Level) (s : State) :
    writeLevel c L (writeLevel c L s) = writeLevel c L s := rfl

theorem setLevelOn_setLevelOn (c : Config) (v : Nat) (s : State) :
    setLevelOn c v (setLevelOn c v s) = setLevelOn c v s := by
  cases hrun : s.run with
  | false => rw [setLevelOn_of_dead v hrun, setLevelOn_of_dead v hrun]
  | true =>
    have hrun' : (writeLevel c (clampLevel v) s).run = true := hrun
    rw [setLevelOn_of_live v hrun, setLevelOn_of_live v hrun', writeLevel_writeLevel]

/-- Settles O20: the write of a live block, nothing in a dead one, and `setLevelOn_setLevelOn`. -/
theorem setLevelWritesLevelAndDelay : Obligations.SetLevelWritesLevelAndDelay := by
  refine fun v s => ⟨decode_opcode_append (.setLevel v) v, ?write, fun t ht => ?idempotent⟩
  case write =>
    rw [exec_setLevel]
    split_ifs with hrun
    · rw [setLevelOn_of_live _ hrun, writeLevel_clampLevel]
    · rw [setLevelOn_of_dead _ (Bool.eq_false_of_not_eq_true hrun)]
  case idempotent =>
    obtain rfl : setLevelOn Config.current v.toNat s = t := Host.Outcome.next.inj ht
    rw [exec_setLevel, setLevelOn_setLevelOn]

/-! ## INCREASE (R143) -/

theorem exec_increase (v : Byte) (s : State) :
    exec (.increase v) s = .next (increaseOn Config.current v.toNat s) := rfl

/-- The clamp of INCREASE comes before that of SET_LEVEL and adds nothing to it. -/
theorem clampLevel_levelPlus (lvl : Byte) (step : Nat) :
    clampLevel (levelPlus lvl step) = clampLevel (lvl.toNat + step) := by
  ext
  simp [levelPlus]

theorem increaseOn_of_writing {c : Config} {s : State} (step : Nat) (hrun : s.run = true) (h100 : s.lvl.toNat ≠ 100) :
    increaseOn c step s = writeLevel c (clampLevel (s.lvl.toNat + step)) s := by
  rw [increaseOn, if_pos hrun, if_neg h100, setLevelOn_of_live _ hrun, clampLevel_levelPlus]

/-- Nothing is written by a dead block or at level 100. -/
theorem increaseOn_of_not_writing {c : Config} {s : State} (step : Nat)
    (h : ¬ (s.run = true ∧ s.lvl.toNat ≠ 100)) : increaseOn c step s = s := by
  unfold increaseOn
  split_ifs with hrun h100
  · rfl
  · exact absurd ⟨hrun, h100⟩ h
  · rfl

/-- Settles O21: the two rules of INCREASE. -/
theorem increaseSaturatesAtHundred : Obligations.IncreaseSaturatesAtHundred := by
  refine fun v s => ⟨decode_opcode_append (.increase v) v, ?_⟩
  rw [exec_increase]
  split_ifs with h
  · obtain ⟨hrun, h100⟩ := h
    rw [increaseOn_of_writing _ hrun h100, writeLevel_clampLevel]
  · rw [increaseOn_of_not_writing _ h]

/-! ## DECREASE (R144) -/

theorem exec_decrease (v : Byte) (s : State) :
    exec (.decrease v) s = .next (decreaseOn Config.current v.toNat s) := rfl

/-- The saturation at 0 written as a case distinction. -/
theorem levelMinus_eq_ite (lvl : Byte) (step : Nat) :
    levelMinus lvl step = if step ≥ lvl.toNat then 0 else lvl.toNat - step := by
  unfold levelMinus
  split_ifs with hle
  · exact Nat.sub_eq_zero_of_le hle
  · rfl

theorem decreaseOn_of_writing {c : Config} {s : State} (step : Nat) (hrun : s.run = true) (h0 : s.lvl.toNat ≠ 0) :
    decreaseOn c step s = writeLevel c (clampLevel (levelMinus s.lvl step)) s := by
  rw [decreaseOn, if_pos hrun, if_neg h0, setLevelOn_of_live _ hrun]

/-- Nothing is written by a dead block or at level 0. -/
theorem decreaseOn_of_not_writing {c : Config} {s : State} (step : Nat)
    (h : ¬ (s.run = true ∧ s.lvl.toNat ≠ 0)) : decreaseOn c step s = s := by
  unfold decreaseOn
  split_ifs with hrun h0
  · rfl
  · exact absurd ⟨hrun, h0⟩ h
  · rfl

/-- Settles O22: the two rules of DECREASE. -/
theorem decreaseSaturatesAtZero : Obligations.DecreaseSaturatesAtZero := by
  refine fun v s => ⟨decode_opcode_append (.decrease v) v, ?_⟩
  rw [← levelMinus_eq_ite, exec_decrease]
  split_ifs with h
  · obtain ⟨hrun, h0⟩ := h
    rw [decreaseOn_of_writing _ hrun h0, writeLevel_clampLevel]
  · rw [decreaseOn_of_not_writing _ h]

end Sys2Proof.Machine
end

section
/-! The output (44_output.md): the pin, the overrides START, STOP and SHUTDOWN, and the block that SHUTDOWN leaves dead. -/

namespace Sys2Proof.Machine

/-! ## START (R152) and STOP (R153) -/

/-- What START (`true`) and STOP (`false`) do: force the output while the block is live. -/
def overrideOn (b : Bool) (s : State) : State := if s.run then forceOutput b s else s

theorem exec_start (s : State) : exec .start s = .next (overrideOn true s) := rfl

theorem exec_stop (s : State) : exec .stop s = .next (overrideOn false s) := rfl

theorem overrideOn_of_dead {b : Bool} {s : State} (hrun : s.run = false) : overrideOn b s = s := by
  simp [overrideOn, hrun]

theorem overrideOn_of_live {b : Bool} {s : State} (hrun : s.run = true) : overrideOn b s = forceOutput b s := by
  simp [overrideOn, hrun]

/-- CANCEL and DRIVE with the fields they write spelt out; the stop channel is not among them. -/
theorem forceOutput_eq (b : Bool) (s : State) :
    forceOutput b s = { s with fire := { s.fire with pending := false }, out := b } := rfl

/-- The two rules of an override in one, as R152 and R153 give them. -/
theorem overrideOn_eq_ite (b : Bool) (s : State) :
    overrideOn b s =
      if s.run = true then { s with fire := { s.fire with pending := false }, out := b } else s := by
  rw [overrideOn, forceOutput_eq]

/-- Settles O41: the override that asserts. -/
theorem startAssertsAndCancelsFire : Obligations.StartAssertsAndCancelsFire :=
  ⟨decode_opcode_append .start 0, fun s => by rw [exec_start, overrideOn_eq_ite]⟩

/-- Settles O42: the override that de-asserts. -/
theorem stopDeassertsAndKeepsStopTimer : Obligations.StopDeassertsAndKeepsStopTimer :=
  ⟨decode_opcode_append .stop 0, fun s => by rw [exec_stop, overrideOn_eq_ite]⟩

/-! ## Overrides in a row, and a TICK behind one (R154) -/

/-- The fast path of FALL at level 100 is START, dead or alive. -/
theorem fallOn_eq_overrideOn_of_hundred {s : State} (h100 : s.lvl.toNat = 100) : fallOn s = overrideOn true s := by
  cases hrun : s.run with
  | false => rw [fallOn_of_dead hrun, overrideOn_of_dead hrun]
  | true => rw [fallOn_of_hundred hrun h100, overrideOn_of_live hrun]

/-- The fast path of FALL at level 0 is STOP, dead or alive. -/
theorem fallOn_eq_overrideOn_of_zero {s : State} (h0 : s.lvl.toNat = 0) : fallOn s = overrideOn false s := by
  cases hrun : s.run with
  | false => rw [fallOn_of_dead hrun, overrideOn_of_dead hrun]
  | true => rw [fallOn_of_zero hrun h0, overrideOn_of_live hrun]

/-- An override writes over everything an earlier one wrote. -/
theorem overrideOn_overrideOn (b b' : Bool) (s : State) : overrideOn b (overrideOn b' s) = overrideOn b s := by
  cases hrun : s.run with
  | false => rw [overrideOn_of_dead hrun]
  | true =>
    rw [overrideOn_of_live (b := b') hrun, overrideOn_of_live (b := b) hrun]
    exact overrideOn_of_live hrun

/-- Any further override does after the list what it does before it. -/
theorem runOps_overrides {is : List Instr} (his : ∀ i ∈ is, i = .start ∨ i = .stop) (s : State) :
    ∃ u, runOps is s = .next u ∧ ∀ b, overrideOn b u = overrideOn b s := by
  refine runOps_keeps (fun i hi u hu => ?_) fun _ => rfl
  obtain rfl | rfl := his i hi
  · exact ⟨_, exec_start u, fun b => by rw [overrideOn_overrideOn, hu b]⟩
  · exact ⟨_, exec_stop u, fun b => by rw [overrideOn_overrideOn, hu b]⟩

/-- A TICK arms nothing: an idle fire channel is still idle after it, whether or not the stop channel expires. -/
theorem tickOn_fire_pending_of_idle {c : Config} {s : State} (hrun : s.run = true) (hidle : s.fire.pending = false) :
    (tickOn c s).fire.pending = false := by
  have hfire := channelDue_of_idle hidle
  have hcounted : (channelCount s.fire).pending = false := (channelCount_pending s.fire).trans hidle
  cases hstop : channelDue s.stop with
  | false =>
    rw [tickOn_of_not_due hrun hfire hstop]
    exact hcounted
  | true =>
    rw [tickOn_of_stop_due hrun hfire hstop]
    cases c.stopExpiryCancelsFire with
    | true => rfl
    | false => exact hcounted

/-- With no expiry a TICK only counts. -/
theorem tickOn_out_of_not_due {c : Config} {s : State} (hrun : s.run = true) (hfire : channelDue s.fire = false)
    (hstop : channelDue s.stop = false) : (tickOn c s).out = s.out := by
  rw [tickOn_of_not_due hrun hfire hstop, countBoth]

/-- The cancel is complete when the override ends: the TICK behind it finds the fire channel idle. -/
theorem tick_after_override (b : Bool) {s : State} (hrun : s.run = true) :
    ∃ u, exec .tick (overrideOn b s) = .next u ∧ (overrideOn b s).fire.pending = false ∧ u.fire.pending = false ∧
      (channelDue s.stop = false → u.out = (overrideOn b s).out) := by
  rw [overrideOn_of_live hrun]
  have hlive : (forceOutput b s).run = true := hrun
  have hidle : (forceOutput b s).fire.pending = false := rfl
  exact ⟨_, exec_tick _, hidle, tickOn_fire_pending_of_idle hlive hidle,
    tickOn_out_of_not_due hlive (channelDue_of_idle hidle)⟩

/-- Settles O43: the fast paths are overrides; `runOps_overrides` before the last of a list; `tick_after_override`. -/
theorem lastOverrideDecides : Obligations.LastOverrideDecides := by
  refine ⟨fun s h100 => ?hundred, fun s h0 => ?zero, fun is s his => ?last, fun s hrun i hi => ?tick⟩
  case hundred => rw [exec_fall, exec_start, fallOn_eq_overrideOn_of_hundred h100]
  case zero => rw [exec_fall, exec_stop, fallOn_eq_overrideOn_of_zero h0]
  case last =>
    obtain ⟨u, hu, hoverride⟩ := runOps_overrides his s
    constructor
    · rw [runOps_append_next _ _ _ _ hu, runOps_singleton, exec_start, exec_start, hoverride]
    · rw [runOps_append_next _ _ _ _ hu, runOps_singleton, exec_stop, exec_stop, hoverride]
  case tick =>
    obtain rfl | rfl : i = .start ∨ i = .stop := by simpa using hi
    · exact ⟨_, (tick_after_override true hrun).imp fun _ h => ⟨exec_start s, h⟩⟩
    · exact ⟨_, (tick_after_override false hrun).imp fun _ h => ⟨exec_stop s, h⟩⟩

/-! ## SHUTDOWN (R155) -/

theorem exec_shutdown (s : State) : exec .shutdown s = .next (shutdownOn s) := rfl

theorem shutdownOn_of_dead {s : State} (hrun : s.run = false) : shutdownOn s = s := by
  simp [shutdownOn, hrun]

theorem shutdownOn_of_live {s : State} (hrun : s.run = true) :
    shutdownOn s =
      { s with
        fire := { s.fire with pending := false }
        stop := { s.stop with pending := false }
        out := false
        run := false } := by
  rw [shutdownOn, if_pos hrun]
  rfl

/-- Settles O44: the four writes in a live block, nothing in a dead one. -/
theorem shutdownForcesOffAndEnds : Obligations.ShutdownForcesOffAndEnds := by
  refine ⟨decode_opcode_append .shutdown 0, fun s => ?_⟩
  rw [exec_shutdown]
  split_ifs with hrun
  · rw [shutdownOn_of_live hrun]
  · rw [shutdownOn_of_dead (Bool.eq_false_of_not_eq_true hrun)]

/-! ## The dead block (R156) and RESET, which ends it (R190) -/

theorem exec_reset (s : State) : exec .reset s = .next (resetOn Config.current s) := rfl

@[simp] theorem resetOn_out (c : Config) (s : State) : (resetOn c s).out = false := rfl
@[simp] theorem resetOn_run (c : Config) (s : State) : (resetOn c s).run = true := rfl

/-- R156: every operation but RESET tests `run` before it writes. -/
theorem exec_of_dead {i : Instr} {s : State} (hrun : s.run = false) (hi : i ≠ .reset) : exec i s = .next s := by
  have hnot : ∀ p : Prop, ¬ (s.run = true ∧ p) := fun _ h => Bool.false_ne_true (hrun.symm.trans h.1)
  cases i with
  | nop => exact exec_nop s
  | getLevel => exact exec_getLevel s
  | setLevel v => rw [exec_setLevel, setLevelOn_of_dead _ hrun]
  | increase v => rw [exec_increase, increaseOn_of_not_writing _ (hnot _)]
  | decrease v => rw [exec_decrease, decreaseOn_of_not_writing _ (hnot _)]
  | start => rw [exec_start, overrideOn_of_dead hrun]
  | stop => rw [exec_stop, overrideOn_of_dead hrun]
  | shutdown => rw [exec_shutdown, shutdownOn_of_dead hrun]
  | fall => rw [exec_fall, fallOn_of_dead hrun]
  | rise => rw [exec_rise, riseOn_of_dead hrun]
  | sample b => rw [exec_sample, sampleOn_of_dead b hrun]
  | tick => rw [exec_tick, tickOn_of_dead hrun]
  | fireExpire => rw [exec_fireExpire, fireExpireOn_of_not_pending (hnot _)]
  | stopExpire => rw [exec_stopExpire, stopExpireOn_of_not_pending (hnot _)]
  | reset => exact absurd rfl hi

/-- A run without RESET finds every state of a dead block as it left it. -/
theorem runOps_of_dead {is : List Instr} {s : State} (hrun : s.run = false) (his : .reset ∉ is) :
    runOps is s = .next s := by
  obtain ⟨t, ht, rfl⟩ : ∃ t, runOps is s = .next t ∧ t = s := by
    refine runOps_keeps (fun i hi u hu => ⟨u, ?_, hu⟩) rfl
    subst hu
    exact exec_of_dead hrun (ne_of_mem_of_not_mem hi his)
  exact ht

/-- After SHUTDOWN a run without RESET ends in the state SHUTDOWN left. -/
theorem runOps_shutdown_cons {is : List Instr} {s : State} (hrun : s.run = true) (his : .reset ∉ is) :
    runOps (.shutdown :: is) s = .next (shutdownOn s) := by
  have hdead : (shutdownOn s).run = false := by rw [shutdownOn_of_live hrun]
  rw [runOps_cons_next _ _ _ _ (exec_shutdown s), runOps_of_dead hdead his]

/-- Settles O45: `exec_of_dead` for one operation and, over lists, `runOps_of_dead`, also from the state of SHUTDOWN. -/
theorem deadBlockStaysDeadUntilReset : Obligations.DeadBlockStaysDeadUntilReset := by
  refine ⟨fun i s hrun hi => ⟨exec_of_dead hrun hi, answerOf_eq i s⟩,
    fun is s hrun his => ⟨s, runOps_of_dead hrun his, rfl⟩,
    fun is s hrun his => ⟨shutdownOn s, runOps_shutdown_cons hrun his, ?_⟩,
    fun s => ⟨_, exec_reset s, resetOn_run _ s⟩⟩
  simp [shutdownOn_of_live hrun]

/-! ## The pin (R151) -/

theorem gateOut_of_activeHigh {c : Config} (hhigh : c.outActiveHigh = true) (s : State) : gateOut c s = s.out := by
  simp [gateOut, hhigh]

theorem gateOut_of_activeLow {c : Config} (hlow : c.outActiveHigh = false) (s : State) : gateOut c s = !s.out := by
  simp [gateOut, hlow]

/-- The de-asserted level of the pin is the opposite of its active level. -/
theorem gateOut_of_deasserted (c : Config) {s : State} (hout : s.out = false) : gateOut c s = !c.outActiveHigh := by
  cases hactive : c.outActiveHigh with
  | false => rw [gateOut_of_activeLow hactive, hout]
  | true => rw [gateOut_of_activeHigh hactive, hout]; rfl

/-- Settles O46: both polarities, and RESET de-asserts. -/
theorem gatePinFollowsTheOutput : Obligations.GatePinFollowsTheOutput := by
  refine ⟨fun _ s hhigh => gateOut_of_activeHigh hhigh s, fun _ s hlow => gateOut_of_activeLow hlow s, fun s t ht => ?_⟩
  obtain rfl : resetOn Config.current s = t := Host.Outcome.next.inj ht
  exact gateOut_of_deasserted _ (resetOn_out _ s)

end Sys2Proof.Machine
end

section
/-! Totality (60_exceptions.md): every operation has a next state, and the only word without a step is a reserved one. -/

namespace Sys2Proof.Machine

/-! ## One operation (R170) -/

/-- R170: the next state of each operation is the one its `exec_` equation names. -/
theorem exec_total (i : Instr) (s : State) : ∃ t, exec i s = .next t := by
  cases i with
  | nop => exact ⟨_, exec_nop s⟩
  | getLevel => exact ⟨_, exec_getLevel s⟩
  | setLevel v => exact ⟨_, exec_setLevel v s⟩
  | increase v => exact ⟨_, exec_increase v s⟩
  | decrease v => exact ⟨_, exec_decrease v s⟩
  | start => exact ⟨_, exec_start s⟩
  | stop => exact ⟨_, exec_stop s⟩
  | shutdown => exact ⟨_, exec_shutdown s⟩
  | fall => exact ⟨_, exec_fall s⟩
  | rise => exact ⟨_, exec_rise s⟩
  | sample b => exact ⟨_, exec_sample b s⟩
  | tick => exact ⟨_, exec_tick s⟩
  | fireExpire => exact ⟨_, exec_fireExpire s⟩
  | stopExpire => exact ⟨_, exec_stopExpire s⟩
  | reset => exact ⟨_, exec_reset s⟩

/-! ## One step (R75) -/

theorem step_of_decode_ok {s : State} {i : Instr} (h : decode (fetchWord s) = .ok i) : step s = exec i (afterFetch s) := by
  simp [step, h]

/-- All a step can do: run the operation its word decodes to, to a next state, or refuse a reserved word. -/
theorem step_cases (s : State) :
    (∃ i t, decode (fetchWord s) = .ok i ∧ exec i (afterFetch s) = .next t ∧ step s = .next t) ∨
    ∃ op, decode (fetchWord s) = .error (.reservedOpcode op) ∧ step s = .refused (.reservedOpcode op) := by
  cases hdecode : decode (fetchWord s) with
  | ok i =>
    obtain ⟨t, ht⟩ := exec_total i (afterFetch s)
    exact .inl ⟨i, t, rfl, ht, (step_of_decode_ok hdecode).trans ht⟩
  | error e =>
    obtain ⟨op⟩ := e
    exact .inr ⟨op, rfl, step_of_decode_error hdecode⟩

/-- Settles O10: `exec_total` for an operation; a step ends in one of the two ways of `step_cases`, neither of them a fault. -/
theorem everyOperationIsTotal : Obligations.EveryOperationIsTotal := by
  refine ⟨exec_total, fun s f hf => ?fault, fun s r hr => ?refusal⟩
  case fault =>
    obtain ⟨_, _, -, -, hnext⟩ | ⟨_, -, hrefused⟩ := step_cases s
    · exact nomatch hf.symm.trans hnext
    · exact nomatch hf.symm.trans hrefused
  case refusal =>
    obtain ⟨_, _, -, -, hnext⟩ | ⟨op, hdecode, hrefused⟩ := step_cases s
    · exact nomatch hr.symm.trans hnext
    · exact ⟨op, Host.Outcome.refused.inj (hr.symm.trans hrefused), hdecode⟩

end Sys2Proof.Machine
end

section
/-! RESET and the hazards (70_reset_and_hazards.md): the writes of RESET, and a level change between two edges. -/

namespace Sys2Proof.Machine

/-! ## RESET (R190) -/

/-- RESET with every field it writes spelt out; only the words to come keep their value, and `run` is not read. -/
theorem resetOn_eq (c : Config) (s : State) :
    resetOn c s =
      { s with
        lvl := levelReg c.defaultLevel
        fd := fdValue c c.defaultLevel
        out := false
        fire := { pending := false, cnt := Config.freeCount s.freeSeq }
        stop := { pending := false, cnt := Config.freeCount (s.freeSeq + 1) }
        run := true
        zcPrev := idleLine c
        freeSeq := s.freeSeq + 2 } := rfl

theorem current_defaultLevel : Config.current.defaultLevel = 75 := rfl

theorem levelReg_default : levelReg 75 = 75 := rfl

theorem idleLine_eq_decide (c : Config) : idleLine c = decide (c.zcPull = .up) := rfl

/-- Settles O53: the writes are those of `resetOn_eq` at the machine's DEFAULT_LEVEL; the free counts and the counter of free
values are the ones it names. -/
theorem resetConstructsTheBlock : Obligations.ResetConstructsTheBlock := by
  refine ⟨decode_opcode_append .reset 0, fun s =>
    ⟨Config.freeCount s.freeSeq, Config.freeCount (s.freeSeq + 1), s.freeSeq + 2, ?_⟩⟩
  rw [exec_reset, resetOn_eq, current_defaultLevel, levelReg_default, idleLine_eq_decide]

/-! ## A level change between two edges (R204) -/

/-- FALL reads the pair that the level change wrote, so it arms the delay of the new level. -/
theorem fallOn_writeLevel_of_armed {c : Config} {s : State} {L : Level} (hrun : s.run = true) (h1 : 1 ≤ L.val)
    (h99 : L.val ≤ 99) : fallOn (writeLevel c L s) = arm .fire (fdValue c L).toInt (writeLevel c L s) := by
  apply fallOn_of_armed
  · rw [writeLevel_run, hrun]
  · rw [writeLevel_lvl, levelReg_toNat]; omega
  · rw [writeLevel_lvl, levelReg_toNat]; omega

/-- Settles O26: the level change writes `lvl` and `fd` alone; the FALL behind it arms the new level's delay
(`fallOn_writeLevel_of_armed`), which the counter holds exactly (`armCount_fdValue_toNat`). -/
theorem levelChangeTakesEffectAtNextFall : Obligations.LevelChangeTakesEffectAtNextFall := by
  intro v s hrun h1 h99
  have hL1 : 1 ≤ (clampLevel v.toNat).val := by rw [clampLevel_val]; omega
  have hL99 : (clampLevel v.toNat).val ≤ 99 := by rw [clampLevel_val]; omega
  refine ⟨writeLevel Config.current (clampLevel v.toNat) s, fallOn (writeLevel Config.current (clampLevel v.toNat) s),
    by rw [exec_setLevel, setLevelOn_of_live _ hrun], writeLevel_fire .., writeLevel_stop .., writeLevel_out ..,
    exec_fall _, ?_⟩
  rw [fallOn_writeLevel_of_armed hrun hL1 hL99, arm_fire_fire]
  exact ⟨rfl, armCount_fdValue_toNat Config.current_wf hL1 hL99, arm_fire_out _ _⟩

end Sys2Proof.Machine
end

section
/-! The event word read back (30_encoding.md): decoding inverts encoding up to the bits R73 and R74 ignore, the text of an
operation reads back as that operation, and a step runs what its word decodes to. -/

namespace Sys2Proof

/-! ## Decoding what was encoded (R71 to R74) -/

/-- The bits of `imm` that an opcode reads are those that decide the operand. -/
theorem withImm_eq_self_iff (imm : Byte) (i : Instr) :
    withImm imm i = i ↔ imm &&& operandMask (opcode i) = operandField i := by
  have hall : imm &&& 0xFF = imm := BitVec.and_allOnes
  cases i with
  | setLevel v =>
    have hread : imm &&& operandMask (opcode (.setLevel v)) = imm := hall
    simp [hread, withImm, operandField]
  | increase s =>
    have hread : imm &&& operandMask (opcode (.increase s)) = imm := hall
    simp [hread, withImm, operandField]
  | decrease s =>
    have hread : imm &&& operandMask (opcode (.decrease s)) = imm := hall
    simp [hread, withImm, operandField]
  | sample b =>
    have hread : imm &&& operandMask (opcode (.sample b)) = BitVec.setWidth 8 (BitVec.ofBool (imm.getLsbD 0)) :=
      BitVec.and_one_eq_setWidth_ofBool_getLsbD
    rw [hread, withImm, Instr.sample.injEq]
    cases imm.getLsbD 0 <;> cases b <;> decide
  | _ => exact iff_of_true rfl BitVec.and_zero

/-- The operand that the encoder writes has no ignored bit set (R74, U2). -/
theorem operandField_and_operandMask (i : Instr) : operandField i &&& operandMask (opcode i) = operandField i := by
  have hall : ∀ v : Byte, v &&& 0xFF = v := fun _ => BitVec.and_allOnes
  cases i with
  | setLevel v => exact hall v
  | increase s => exact hall s
  | decrease s => exact hall s
  | sample b => cases b <;> rfl
  | _ => rfl

/-- Settles O3: an encoded word decodes to the operation with the operand that was written, which is its own. -/
theorem decodeOfEncodeIsIdentity : Obligations.DecodeOfEncodeIsIdentity := by
  intro i
  rw [encode, decode_opcode_append, (withImm_eq_self_iff _ _).2 (operandField_and_operandMask i)]

/-! ## The words of an operation -/

theorem opField_append_immField (w : EventWord) : opField w ++ immField w = w := by
  apply BitVec.eq_of_toNat_eq
  have hlow : (immField w).toNat < 2 ^ 8 := (immField w).isLt
  rw [BitVec.toNat_append, ← Nat.shiftLeft_add_eq_or_of_lt hlow, Nat.shiftLeft_eq, opField_toNat, immField_toNat]
  omega

/-- Two words of two bytes each are equal exactly when their fields are. -/
theorem append_eq_append_iff (op op' imm imm' : Byte) : op ++ imm = op' ++ imm' ↔ op = op' ∧ imm = imm' := by
  refine ⟨fun h => ⟨?_, ?_⟩, by rintro ⟨rfl, rfl⟩; rfl⟩
  · rw [← opField_append op imm, h, opField_append]
  · rw [← immField_append op imm, h, immField_append]

/-- A word that decodes to an operation carries its opcode. -/
theorem opField_of_decode_ok {w : EventWord} {i : Instr} (h : decode w = .ok i) : opField w = opcode i := by
  unfold decode at h
  split at h <;> cases h
  all_goals apply BitVec.eq_of_toNat_eq; assumption

/-- Settles O4: either side fixes the opcode; what is left is `withImm_eq_self_iff`. -/
theorem decodeIffEncodesClearedWord : Obligations.DecodeIffEncodesClearedWord := by
  intro w i
  have hword : opField w = opcode i → (decode w = .ok i ↔ immField w &&& operandMask (opcode i) = operandField i) := by
    intro hop
    rw [← withImm_eq_self_iff, ← opField_append_immField w, hop, decode_opcode_append, immField_append, Except.ok.injEq]
  rw [clearIgnored, encode, append_eq_append_iff]
  constructor
  · intro h
    have hop := opField_of_decode_ok h
    rw [hop]
    exact ⟨rfl, (hword hop).1 h⟩
  · rintro ⟨hop, himm⟩
    rw [hop] at himm
    exact (hword hop).2 himm

/-- Settles O1: each word is an opcode of the map with an operand; the last one has a reserved opcode. -/
theorem listedWordsDecode : Obligations.ListedWordsDecode :=
  have row := decode_opcode_append
  ⟨row .nop 0, row .getLevel 0, row (.setLevel 0) 150, row (.increase 0) 1, row (.decrease 0) 1, row .start 0xA7,
    row .shutdown 0, row .fall 0, row (.sample false) 0xFE, row .tick 0, row .stopExpire 0, row .reset 0,
    (decode_eq_error_iff _ _).2 ⟨by unfold ReservedOpcode; decide, rfl⟩⟩

/-! ## The text of an operation (R77) -/

theorem byteOperand_toNat (v : Byte) : byteOperand v.toNat = some v := by
  have hmax : v.toNat ≤ 255 := Nat.le_pred_of_lt v.isLt
  simp [byteOperand, hmax]

/-- The mnemonic and the operand of an operation are a line that stands for it alone. -/
theorem lineOf_mnemonic_textOperand (i : Instr) : lineOf (mnemonic i) (textOperand i) = some (.op i) := by
  cases i with
  | setLevel v => simp [lineOf, mnemonic, textOperand, byteOperand_toNat]
  | increase s => simp [lineOf, mnemonic, textOperand, byteOperand_toNat]
  | decrease s => simp [lineOf, mnemonic, textOperand, byteOperand_toNat]
  | sample b => cases b <;> rfl
  | _ => rfl

/-- Settles O7: the line is the operation itself, which expands to it. -/
theorem textOfOperationReadsBack : Obligations.TextOfOperationReadsBack :=
  fun i => ⟨.op i, lineOf_mnemonic_textOperand i, rfl⟩

namespace Machine

/-! ## The step (R76) -/

theorem afterFetch_of_trace_eq_cons {s : State} {w : EventWord} {rest : List EventWord} (h : s.trace = w :: rest) :
    afterFetch s = { s with trace := rest } := by
  rw [afterFetch, h, List.tail_cons]

/-- With no word to come the step is the idle word, which leaves the list empty. -/
theorem step_of_trace_eq_nil {s : State} (h : s.trace = []) : step s = .next s := by
  have hfetch : fetchWord s = 0x0000 := by rw [fetchWord, h]
  have hafter : afterFetch s = s := by rw [afterFetch, h, List.tail_nil, ← h]
  rw [step_of_decode_ok (i := .nop) (hfetch ▸ decode_opcode_append .nop 0), hafter, exec_nop]

/-- Settles O8: the fetch takes the first word of the list, or the idle word. -/
theorem stepRunsTheDecodedOperation : Obligations.StepRunsTheDecodedOperation := by
  refine ⟨fun s w rest i htrace hdecode => ?_, fun s w rest op htrace hdecode => ?_, fun s => step_of_trace_eq_nil⟩
  · rw [← fetchWord_of_trace_eq_cons htrace] at hdecode
    rw [step_of_decode_ok hdecode, afterFetch_of_trace_eq_cons htrace]
  · rw [← fetchWord_of_trace_eq_cons htrace] at hdecode
    exact step_of_decode_error hdecode

@[simp] theorem fetchWord_placeWord (w : EventWord) (s : State) : fetchWord (placeWord w s) = w := rfl
@[simp] theorem afterFetch_placeWord (w : EventWord) (s : State) : afterFetch (placeWord w s) = s := rfl

/-- The bits of a table row spell the operation that the decoder reads from its event word. -/
theorem decode_tableWord {nbits w : Nat} {i : Instr} (h : decodeTableWord nbits w = some i) :
    decode (tableWord nbits w) = .ok i := by
  unfold decodeTableWord at h
  split at h
  · split at h <;> simp_all
  · cases h

/-- Settles O9: taking a placed word gives back the state it was placed in. -/
theorem placedWordRunsNext : Obligations.PlacedWordRunsNext := by
  intro s nbits w i h
  have hdecode : decode (fetchWord (placeWord (tableWord nbits w) s)) = .ok i := by
    rw [fetchWord_placeWord]
    exact decode_tableWord h
  rw [State.withFetchWord, step_of_decode_ok hdecode, afterFetch_placeWord]

end Machine

end Sys2Proof
end

section
/-! The scaled table and the fire delay over a well-formed configuration (40_delay_table.md R95 and R97), and the condition on
the lag (00_scope.md R12 item 3). -/

namespace Sys2Proof.Machine

/-! ## Scaled (R95) and FireDelay (R97) -/

/-- R95: at the reference frequency the product is divided by its own factor. -/
theorem scaled_of_reference {c : Config} (href : c.refOk = true) (h : c.halfPeriodUsec = c.refHalfPeriodUsec) (L : Level) :
    scaled c L = (lookup c L).toNat := by
  have hpos : 0 < c.refHalfPeriodUsec := of_decide_eq_true href
  rw [scaled, h, Nat.mul_div_cancel _ hpos]

/-- Settles O12: the two ends and the order are laws of the table, the range is that of the last entry. -/
theorem scaledIsMonotoneWithExactEnds : Obligations.ScaledIsMonotoneWithExactEnds := by
  intro c hc
  obtain ⟨_, hmono, href, hhalf, _⟩ := c.wf_iff.1 hc
  have hmax := (c.halfPeriodOk_iff.1 hhalf).2
  have hle := scaled_le_halfPeriod hc
  exact ⟨scaled_zero hc, scaled_hundred hc, fun _ _ hLM => scaled_monotone hmono hLM,
    fun L => ⟨hle L, (hle L).trans hmax⟩, scaled_of_reference href⟩

/-- R97 item 1: a higher level fires earlier. -/
theorem fireDelay_antitone {c : Config} (hmono : c.tableMonotone = true) : Antitone (fireDelay c) := by
  intro L M hLM
  have hscaled : scaled c L ≤ scaled c M := scaled_monotone hmono hLM
  unfold fireDelay; omega

/-- Settles O13: FireDelay is the half-period less Scaled, so its order and its ends are those of Scaled reversed. -/
theorem fireDelayFallsWithTheLevel : Obligations.FireDelayFallsWithTheLevel := by
  intro c hc
  obtain ⟨_, hmono, -⟩ := c.wf_iff.1 hc
  refine ⟨fun _ _ hLM => fireDelay_antitone hmono hLM, ?zero, ?hundred, fun L h1 h99 =>
    ⟨(fireDelay_bounds_of_armed hc h1 h99).1, fireDelay_le_halfPeriod c L⟩⟩
  case zero => rw [fireDelay, scaled_zero hc]; omega
  case hundred => rw [fireDelay, scaled_hundred hc]; omega

/-! ## The strict bound of R97 item 5 -/

/-- The 60 Hz configuration with entry 1 of its table and its lag both 0. -/
def flatStart : Config := { Config.c60 with sensorLagUsec := 0, table := Config.defaultTable.set 1 0 }

/-- Refutes O14: `flatStart` is well formed, and its fire delay at level 1 is the whole half-period. -/
theorem not_largestArmedDelayBelowHalfPeriod : ¬ Obligations.LargestArmedDelayBelowHalfPeriod := by
  intro h
  have hwf : flatStart.wf = true := by decide
  have hequal : fireDelay flatStart 1 = flatStart.halfPeriodUsec := by decide
  exact absurd hequal (h flatStart hwf).ne

/-! ## The condition on the lag -/

/-- The delay falls with the level, so level 99 is the binding one. -/
theorem lagOk_iff_of_tableMonotone {c : Config} (hmono : c.tableMonotone = true) :
    c.lagOk = true ↔ (c.sensorLagUsec : Int) ≤ (c.halfPeriodUsec : Int) - scaled c 99 - 1 := by
  have h99 : 1 ≤ fireDelay c 99 ↔ (c.sensorLagUsec : Int) ≤ (c.halfPeriodUsec : Int) - scaled c 99 - 1 := by
    unfold fireDelay; omega
  rw [c.lagOk_iff, ← h99]
  refine ⟨fun h => h 99 (by decide) (by decide), fun h L _ h100 => h.trans (fireDelay_antitone hmono ?_)⟩
  rw [Fin.le_def]
  have hL := L.isLt
  show L.val ≤ 99
  omega

/-- Settles O16: of the other checks only the order of the table is needed. -/
theorem lagConditionIsOneInequality : Obligations.LagConditionIsOneInequality :=
  fun _ _ hmono _ _ => lagOk_iff_of_tableMonotone hmono

/-- A configuration that is well formed with one lag is so with another exactly when that lag meets the inequality. -/
theorem wf_with_lag_iff {c : Config} (hc : c.wf = true) (lag : Nat) :
    ({ c with sensorLagUsec := lag } : Config).wf = true ↔ (lag : Int) ≤ (c.halfPeriodUsec : Int) - scaled c 99 - 1 := by
  obtain ⟨hends, hmono, href, hhalf, _⟩ := c.wf_iff.1 hc
  have hlag := lagOk_iff_of_tableMonotone (c := { c with sensorLagUsec := lag }) hmono
  rw [Config.wf_iff]
  exact ⟨fun ⟨_, _, _, _, hok⟩ => hlag.1 hok, fun hle => ⟨hends, hmono, href, hhalf, hlag.2 hle⟩⟩

/-- Settles O17: both configurations are well formed, with 7802 and 9362 as their scaled entries at level 99. -/
theorem defaultTableConfigurationsWellFormed : Obligations.DefaultTableConfigurationsWellFormed := by
  intro lag
  have h60 : (Config.c60.halfPeriodUsec : Int) - scaled Config.c60 99 - 1 = 530 := by decide
  have h50 : (Config.c50.halfPeriodUsec : Int) - scaled Config.c50 99 - 1 = 637 := by decide
  obtain ⟨hwf50, hwf60⟩ := Tests.test_default_configurations_wf
  rw [wf_with_lag_iff hwf60, wf_with_lag_iff hwf50, h60, h50]
  exact ⟨by omega, by omega⟩

end Sys2Proof.Machine
end

section
/-! What an operation can do, said once (`Effect`, `exec_effect`), and what follows for each field: which operations change it
(10_state.md R20), who ends a timer (42_timer.md R122) and who switches the output (44_output.md R157). -/

namespace Sys2Proof.Machine

/-! ## TICK with both channels due (R128) -/

/-- The output that the two expiries of one TICK leave, by their order and the option of R127. -/
def outAfterBoth (c : Config) : ExpiryOrder → Bool
  | .fireFirst => false
  | .stopFirst => !c.stopExpiryCancelsFire

theorem tickOn_of_both_due_eq {c : Config} {s : State} (hrun : s.run = true) (hfire : channelDue s.fire = true)
    (hstop : channelDue s.stop = true) :
    tickOn c s =
      { s with
        fire := { s.fire with pending := false }
        stop := { s.stop with pending := false }
        out := outAfterBoth c (c.expiryOrder s.freeSeq)
        freeSeq := s.freeSeq + 1 } := by
  have hfirePending := ((channelDue_iff s.fire).1 hfire).1
  have hstopPending := ((channelDue_iff s.stop).1 hstop).1
  rw [tickOn_of_both_due hrun hfire hstop]
  cases c.expiryOrder s.freeSeq with
  | fireFirst => exact expireInOrder_fireFirst hrun hfirePending hstopPending
  | stopFirst => exact expireInOrder_stopFirst hrun hfirePending hstopPending

/-- Settles O35: the state of `tickOn_of_both_due_eq`, whose output is that of the order drawn. -/
theorem expiryOrderDecidesTheOutput : Obligations.ExpiryOrderDecidesTheOutput := by
  refine ⟨fun c s hrun hfire hstop => ?_, exec_tick⟩
  rw [tickOn_of_both_due_eq hrun hfire hstop]
  exact ⟨rfl, rfl, congrArg (outAfterBoth c), congrArg (outAfterBoth c), rfl⟩

/-! ## The effects -/

/-- A FALL, or the SAMPLE that is one (R111). -/
def IsFall (i : Instr) (s : State) : Prop := i = .fall ∨ (i = .sample false ∧ s.zcPrev = true)

/-- A RISE, or the SAMPLE that is one (R111). -/
def IsRise (i : Instr) (s : State) : Prop := i = .rise ∨ (i = .sample true ∧ s.zcPrev = false)

/-- A command that sets the level (43_level.md R142 to R144). -/
def SetsLevel (i : Instr) : Prop := ∃ v, i = .setLevel v ∨ i = .increase v ∨ i = .decrease v

/-- `zc_prev` after an operation on a live block: only SAMPLE writes it (10_state.md R23). -/
def lineAfter (i : Instr) (s : State) : Bool :=
  match i with
  | .sample b => b
  | _ => s.zcPrev

/-- The fire channel after a stop expiry: cancelled exactly under STOP_EXPIRY_CANCELS_FIRE (R127). -/
def fireAfterStopExpiry (x : Channel) : Channel :=
  if Config.current.stopExpiryCancelsFire = true then { x with pending := false } else x

/-- `Effect i s t`: one rule of the spec by which operation `i` leads from `s` to `t`, with the condition under which that
rule applies. -/
inductive Effect : Instr → State → State → Prop
  /-- The rules that write nothing. A live block always counts a TICK. -/
  | unchanged {i s} (hi : s.run = true → i ≠ .tick) : Effect i s s
  | setsLevel {i s} (L : Level) (hrun : s.run = true) (hi : SetsLevel i) : Effect i s (writeLevel Config.current L s)
  /-- START and STOP (R152, R153). -/
  | overrides {i s} (b : Bool) (hrun : s.run = true) (hi : i = if b then .start else .stop) :
      Effect i s { s with fire := { s.fire with pending := false }, out := b }
  | shutdown {s} (hrun : s.run = true) :
      Effect .shutdown s
        { s with
          fire := { s.fire with pending := false }
          stop := { s.stop with pending := false }
          out := false
          run := false }
  /-- The fast paths of FALL (R113). -/
  | fallForces {i s} (b : Bool) (hrun : s.run = true) (hi : IsFall i s) (hlvl : s.lvl.toNat = if b then 100 else 0) :
      Effect i s { s with zcPrev := lineAfter i s, fire := { s.fire with pending := false }, out := b }
  /-- The timer path of FALL (R113). -/
  | fallArms {i s} (hrun : s.run = true) (hi : IsFall i s) (h0 : s.lvl.toNat ≠ 0) (h100 : s.lvl.toNat ≠ 100) :
      Effect i s { s with zcPrev := lineAfter i s, fire := { pending := true, cnt := armCount s.fd.toInt } }
  /-- RISE (R114). -/
  | riseArms {i s} (hrun : s.run = true) (hi : IsRise i s) :
      Effect i s
        { s with
          zcPrev := lineAfter i s
          stop := { pending := true, cnt := armCount Config.current.stopDelayUsec } }
  /-- FIRE_EXPIRE (R125). -/
  | fireExpires {s} (hrun : s.run = true) (hpending : s.fire.pending = true) :
      Effect .fireExpire s { s with fire := { s.fire with pending := false }, out := true }
  /-- STOP_EXPIRE (R126). -/
  | stopExpires {s} (hrun : s.run = true) (hpending : s.stop.pending = true) :
      Effect .stopExpire s
        { s with stop := { s.stop with pending := false }, fire := fireAfterStopExpiry s.fire, out := false }
  /-- TICK with no channel due (R123). -/
  | tickCounts {s} (hrun : s.run = true) (hfire : channelDue s.fire = false) (hstop : channelDue s.stop = false) :
      Effect .tick s { s with fire := channelCount s.fire, stop := channelCount s.stop }
  | tickExpiresFire {s} (hrun : s.run = true) (hfire : channelDue s.fire = true) (hstop : channelDue s.stop = false) :
      Effect .tick s
        { s with fire := { s.fire with pending := false }, stop := channelCount s.stop, out := true }
  | tickExpiresStop {s} (hrun : s.run = true) (hfire : channelDue s.fire = false) (hstop : channelDue s.stop = true) :
      Effect .tick s
        { s with
          fire := fireAfterStopExpiry (channelCount s.fire)
          stop := { s.stop with pending := false }
          out := false }
  /-- TICK with both due: the output is that of the order drawn (R128). -/
  | tickExpiresBoth {s} (b : Bool) (n : Nat) (hrun : s.run = true) (hfire : channelDue s.fire = true)
      (hstop : channelDue s.stop = true) :
      Effect .tick s
        { s with
          fire := { s.fire with pending := false }
          stop := { s.stop with pending := false }
          out := b
          freeSeq := n }
  /-- RESET (70_reset_and_hazards.md R190). -/
  | reset {s} : Effect .reset s (resetOn Config.current s)

/-! ### Every operation has one of the effects -/

/-- FALL by whichever operation is one, on the state in which the line has been recorded. -/
theorem effect_fallOn {i : Instr} {s : State} (hrun : s.run = true) (hi : IsFall i s) :
    Effect i s (fallOn { s with zcPrev := lineAfter i s }) := by
  by_cases h100 : s.lvl.toNat = 100
  · rw [fallOn_of_hundred (s := { s with zcPrev := lineAfter i s }) hrun h100]
    exact .fallForces true hrun hi h100
  by_cases h0 : s.lvl.toNat = 0
  · rw [fallOn_of_zero (s := { s with zcPrev := lineAfter i s }) hrun h0]
    exact .fallForces false hrun hi h0
  rw [fallOn_of_armed (s := { s with zcPrev := lineAfter i s }) hrun h0 h100]
  exact .fallArms hrun hi h0 h100

theorem effect_riseOn {i : Instr} {s : State} (hrun : s.run = true) (hi : IsRise i s) :
    Effect i s (riseOn Config.current { s with zcPrev := lineAfter i s }) := by
  rw [riseOn_of_live (s := { s with zcPrev := lineAfter i s }) hrun]
  exact .riseArms hrun hi

theorem effect_sampleOn {s : State} (b : Bool) (hrun : s.run = true) :
    Effect (.sample b) s (sampleOn Config.current b s) := by
  by_cases hequal : b = s.zcPrev
  · rw [hequal, sampleOn_of_equal]
    exact .unchanged fun _ => nofun
  have hzc : s.zcPrev = !b := Bool.eq_not_of_ne (Ne.symm hequal)
  cases b with
  | false =>
    rw [sampleOn_of_falling hrun hzc]
    exact effect_fallOn hrun (.inr ⟨rfl, hzc⟩)
  | true =>
    rw [sampleOn_of_rising hrun hzc]
    exact effect_riseOn hrun (.inr ⟨rfl, hzc⟩)

theorem effect_tickOn {s : State} (hrun : s.run = true) : Effect .tick s (tickOn Config.current s) := by
  cases hfire : channelDue s.fire <;> cases hstop : channelDue s.stop
  · rw [tickOn_of_not_due hrun hfire hstop]
    exact .tickCounts hrun hfire hstop
  · rw [tickOn_of_stop_due hrun hfire hstop]
    exact .tickExpiresStop hrun hfire hstop
  · rw [tickOn_of_fire_due hrun hfire hstop]
    exact .tickExpiresFire hrun hfire hstop
  · rw [tickOn_of_both_due_eq hrun hfire hstop]
    exact .tickExpiresBoth _ _ hrun hfire hstop

/-- An operation on a live block. -/
theorem exec_effect_of_live (i : Instr) {s : State} (hrun : s.run = true) : ∃ t, exec i s = .next t ∧ Effect i s t := by
  cases i with
  | nop => exact ⟨s, exec_nop s, .unchanged fun _ => nofun⟩
  | getLevel => exact ⟨s, exec_getLevel s, .unchanged fun _ => nofun⟩
  | setLevel v =>
    refine ⟨_, exec_setLevel v s, ?_⟩
    rw [setLevelOn_of_live _ hrun]
    exact .setsLevel _ hrun ⟨v, .inl rfl⟩
  | increase v =>
    refine ⟨_, exec_increase v s, ?_⟩
    by_cases h : s.run = true ∧ s.lvl.toNat ≠ 100
    · rw [increaseOn_of_writing _ hrun h.2]
      exact .setsLevel _ hrun ⟨v, .inr (.inl rfl)⟩
    · rw [increaseOn_of_not_writing _ h]
      exact .unchanged fun _ => nofun
  | decrease v =>
    refine ⟨_, exec_decrease v s, ?_⟩
    by_cases h : s.run = true ∧ s.lvl.toNat ≠ 0
    · rw [decreaseOn_of_writing _ hrun h.2]
      exact .setsLevel _ hrun ⟨v, .inr (.inr rfl)⟩
    · rw [decreaseOn_of_not_writing _ h]
      exact .unchanged fun _ => nofun
  | start => exact ⟨_, exec_start s, overrideOn_of_live hrun ▸ .overrides true hrun rfl⟩
  | stop => exact ⟨_, exec_stop s, overrideOn_of_live hrun ▸ .overrides false hrun rfl⟩
  | shutdown => exact ⟨_, exec_shutdown s, shutdownOn_of_live hrun ▸ .shutdown hrun⟩
  | fall => exact ⟨_, exec_fall s, effect_fallOn hrun (.inl rfl)⟩
  | rise => exact ⟨_, exec_rise s, effect_riseOn hrun (.inl rfl)⟩
  | sample b => exact ⟨_, exec_sample b s, effect_sampleOn b hrun⟩
  | tick => exact ⟨_, exec_tick s, effect_tickOn hrun⟩
  | fireExpire =>
    refine ⟨_, exec_fireExpire s, ?_⟩
    by_cases h : s.run = true ∧ s.fire.pending = true
    · rw [fireExpireOn_of_pending h.1 h.2]
      exact .fireExpires h.1 h.2
    · rw [fireExpireOn_of_not_pending h]
      exact .unchanged fun _ => nofun
  | stopExpire =>
    refine ⟨_, exec_stopExpire s, ?_⟩
    by_cases h : s.run = true ∧ s.stop.pending = true
    · rw [stopExpireOn_of_pending h.1 h.2]
      exact .stopExpires h.1 h.2
    · rw [stopExpireOn_of_not_pending h]
      exact .unchanged fun _ => nofun
  | reset => exact ⟨_, exec_reset s, .reset⟩

/-- Every operation has a next state, by one of the effects. -/
theorem exec_effect (i : Instr) (s : State) : ∃ t, exec i s = .next t ∧ Effect i s t := by
  cases hrun : s.run with
  | true => exact exec_effect_of_live i hrun
  | false =>
    by_cases hi : i = .reset
    · subst hi
      exact ⟨_, exec_reset s, .reset⟩
    · exact ⟨s, exec_of_dead hrun hi, .unchanged fun hlive => absurd (hrun.symm.trans hlive) Bool.false_ne_true⟩

theorem effect_of_exec {i : Instr} {s t : State} (h : exec i s = .next t) : Effect i s t := by
  obtain ⟨u, hu, heffect⟩ := exec_effect i s
  obtain rfl : u = t := Host.Outcome.next.inj (hu.symm.trans h)
  exact heffect

/-- A condition that every operation of a list keeps, whichever effect it has, holds at the end of the run. -/
theorem runOps_keeps_of_effect {P : State → Prop} {is : List Instr}
    (hkeeps : ∀ i ∈ is, ∀ s t, Effect i s t → P s → P t) {s : State} (hs : P s) :
    ∃ t, runOps is s = .next t ∧ P t :=
  runOps_keeps (fun i hi u hu => (exec_effect i u).imp fun t ht => ⟨ht.1, hkeeps i hi u t ht.2 hu⟩) hs

/-! ## What an effect leaves alone -/

theorem lineAfter_ne {i : Instr} {s : State} (h : lineAfter i s ≠ s.zcPrev) : ∃ b, i = .sample b := by
  cases i with
  | sample b => exact ⟨b, rfl⟩
  | _ => exact absurd rfl h

@[simp] theorem fireAfterStopExpiry_cnt (x : Channel) : (fireAfterStopExpiry x).cnt = x.cnt := by
  unfold fireAfterStopExpiry; split <;> rfl

theorem fireAfterStopExpiry_of_not_cancels (h : Config.current.stopExpiryCancelsFire = false) (x : Channel) :
    fireAfterStopExpiry x = x := by
  rw [fireAfterStopExpiry, h, if_neg Bool.false_ne_true]

/-- A stop expiry arms nothing. -/
theorem fireAfterStopExpiry_pending_of_idle {x : Channel} (hidle : x.pending = false) :
    (fireAfterStopExpiry x).pending = false := by
  unfold fireAfterStopExpiry; split
  · rfl
  · exact hidle

/-- A stop expiry ends a pending fire timer only under the option of R127. -/
theorem cancels_of_fireAfterStopExpiry {x : Channel} (hpending : x.pending = true)
    (hidle : (fireAfterStopExpiry x).pending = false) : Config.current.stopExpiryCancelsFire = true := by
  by_contra h
  rw [fireAfterStopExpiry_of_not_cancels (Bool.eq_false_of_not_eq_true h), hpending] at hidle
  exact Bool.noConfusion hidle

/-! ## The writers of each field (10_state.md R20) -/

section
variable {i : Instr} {s t : State} (h : Effect i s t)
include h

theorem Effect.level_changed (hne : t.lvl ≠ s.lvl ∨ t.fd ≠ s.fd) : SetsLevel i ∨ i = .reset := by
  cases h with
  | setsLevel _ _ hi => exact .inl hi
  | reset => exact .inr rfl
  | _ => simp at hne

/-- 44_output.md R157 item 1. -/
theorem Effect.out_asserted (hs : s.out = false) (ht : t.out = true) :
    (IsFall i s ∧ s.lvl.toNat = 100) ∨ (i = .fireExpire ∧ s.fire.pending = true) ∨
      (i = .tick ∧ channelDue s.fire = true) ∨ i = .start := by
  have hkept : s.out = true → False := fun hout => Bool.false_ne_true (hs.symm.trans hout)
  cases h with
  | overrides b _ hi => cases ht; exact .inr (.inr (.inr hi))
  | fallForces b _ hi hlvl => cases ht; exact .inl ⟨hi, hlvl⟩
  | fireExpires _ hpending => exact .inr (.inl ⟨rfl, hpending⟩)
  | tickExpiresFire _ hfire | tickExpiresBoth _ _ _ hfire => exact .inr (.inr (.inl ⟨rfl, hfire⟩))
  | shutdown | stopExpires | tickExpiresStop | reset => cases ht
  | _ => exact (hkept ht).elim

/-- 44_output.md R157 item 2. -/
theorem Effect.out_deasserted (hs : s.out = true) (ht : t.out = false) :
    (IsFall i s ∧ s.lvl.toNat = 0) ∨ (i = .stopExpire ∧ s.stop.pending = true) ∨
      (i = .tick ∧ channelDue s.stop = true) ∨ i = .stop ∨ i = .shutdown ∨ i = .reset := by
  have hkept : s.out = false → False := fun hout => Bool.false_ne_true (hout.symm.trans hs)
  cases h with
  | overrides b _ hi => cases ht; exact .inr (.inr (.inr (.inl hi)))
  | shutdown => exact .inr (.inr (.inr (.inr (.inl rfl))))
  | fallForces b _ hi hlvl => cases ht; exact .inl ⟨hi, hlvl⟩
  | stopExpires _ hpending => exact .inr (.inl ⟨rfl, hpending⟩)
  | tickExpiresStop _ _ hstop | tickExpiresBoth _ _ _ _ hstop => exact .inr (.inr (.inl ⟨rfl, hstop⟩))
  | reset => exact .inr (.inr (.inr (.inr (.inr rfl))))
  | fireExpires | tickExpiresFire => cases ht
  | _ => exact (hkept ht).elim

/-- Only FALL arms the fire channel, at a level that is neither 0 nor 100 (R113). -/
theorem Effect.fire_armed (hs : s.fire.pending = false) (ht : t.fire.pending = true) :
    IsFall i s ∧ s.lvl.toNat ≠ 0 ∧ s.lvl.toNat ≠ 100 := by
  have hcounted : (channelCount s.fire).pending = false := (channelCount_pending s.fire).trans hs
  have hexcluded : t.fire.pending = false → False := fun hidle => Bool.false_ne_true (hidle.symm.trans ht)
  cases h with
  | fallArms _ hi h0 h100 => exact ⟨hi, h0, h100⟩
  | tickCounts => exact (hexcluded hcounted).elim
  | stopExpires => exact (hexcluded (fireAfterStopExpiry_pending_of_idle hs)).elim
  | tickExpiresStop => exact (hexcluded (fireAfterStopExpiry_pending_of_idle hcounted)).elim
  | overrides | shutdown | fallForces | fireExpires | tickExpiresFire | tickExpiresBoth | reset => cases ht
  | _ => exact (hexcluded hs).elim

/-- Who ends a fire timer (R122, R125, R127, R190). -/
theorem Effect.fire_ended (hs : s.fire.pending = true) (ht : t.fire.pending = false) :
    i = .start ∨ i = .stop ∨ i = .shutdown ∨ i = .reset ∨ i = .fireExpire ∨ (i = .tick ∧ channelDue s.fire = true) ∨
      (IsFall i s ∧ (s.lvl.toNat = 0 ∨ s.lvl.toNat = 100)) ∨
      (Config.current.stopExpiryCancelsFire = true ∧
        ((i = .stopExpire ∧ s.stop.pending = true) ∨ (i = .tick ∧ channelDue s.stop = true))) := by
  have hcounted : (channelCount s.fire).pending = true := (channelCount_pending s.fire).trans hs
  have hexcluded : t.fire.pending = true → False := fun hpending => Bool.false_ne_true (ht.symm.trans hpending)
  cases h with
  | overrides b _ hi => cases b <;> simp [hi]
  | shutdown => simp
  | fallForces b _ hi hlvl => cases b <;> simp_all
  | fireExpires => simp
  | stopExpires _ hpending => simp [cancels_of_fireAfterStopExpiry hs ht, hpending]
  | tickExpiresStop _ _ hstop => simp [cancels_of_fireAfterStopExpiry hcounted ht, hstop]
  | tickExpiresFire _ hfire | tickExpiresBoth _ _ _ hfire => simp [hfire]
  | tickCounts => exact (hexcluded hcounted).elim
  | reset => simp
  | fallArms => cases ht
  | _ => exact (hexcluded hs).elim

theorem Effect.fire_cnt_changed (hne : t.fire.cnt ≠ s.fire.cnt) : IsFall i s ∨ i = .tick ∨ i = .reset := by
  cases h with
  | fallArms _ hi => exact .inl hi
  | tickCounts | tickExpiresStop => exact .inr (.inl rfl)
  | reset => exact .inr (.inr rfl)
  | _ => simp at hne

/-- Only RISE arms the stop channel (R114). -/
theorem Effect.stop_armed (hs : s.stop.pending = false) (ht : t.stop.pending = true) : IsRise i s := by
  have hexcluded : t.stop.pending = false → False := fun hidle => Bool.false_ne_true (hidle.symm.trans ht)
  cases h with
  | riseArms _ hi => exact hi
  | tickCounts | tickExpiresFire => exact (hexcluded ((channelCount_pending s.stop).trans hs)).elim
  | shutdown | stopExpires | tickExpiresStop | tickExpiresBoth | reset => cases ht
  | _ => exact (hexcluded hs).elim

/-- Who ends a stop timer (R122, R126, R190). -/
theorem Effect.stop_ended (hs : s.stop.pending = true) (ht : t.stop.pending = false) :
    i = .shutdown ∨ i = .reset ∨ i = .stopExpire ∨ (i = .tick ∧ channelDue s.stop = true) := by
  have hexcluded : t.stop.pending = true → False := fun hpending => Bool.false_ne_true (ht.symm.trans hpending)
  cases h with
  | shutdown => exact .inl rfl
  | reset => exact .inr (.inl rfl)
  | stopExpires => exact .inr (.inr (.inl rfl))
  | tickExpiresStop _ _ hstop | tickExpiresBoth _ _ _ _ hstop => exact .inr (.inr (.inr ⟨rfl, hstop⟩))
  | tickCounts | tickExpiresFire => exact (hexcluded ((channelCount_pending s.stop).trans hs)).elim
  | riseArms => cases ht
  | _ => exact (hexcluded hs).elim

theorem Effect.stop_cnt_changed (hne : t.stop.cnt ≠ s.stop.cnt) : IsRise i s ∨ i = .tick ∨ i = .reset := by
  cases h with
  | riseArms _ hi => exact .inl hi
  | tickCounts | tickExpiresFire => exact .inr (.inl rfl)
  | reset => exact .inr (.inr rfl)
  | _ => simp at hne

theorem Effect.run_changed (hne : t.run ≠ s.run) : (i = .shutdown ∧ t.run = false) ∨ (i = .reset ∧ t.run = true) := by
  cases h with
  | shutdown => exact .inl ⟨rfl, rfl⟩
  | reset => exact .inr ⟨rfl, rfl⟩
  | _ => simp at hne

theorem Effect.zcPrev_changed (hne : t.zcPrev ≠ s.zcPrev) : (∃ b, i = .sample b) ∨ i = .reset := by
  cases h with
  | fallForces | fallArms | riseArms => exact .inl (lineAfter_ne hne)
  | reset => exact .inr rfl
  | _ => simp at hne

theorem Effect.trace_eq : t.trace = s.trace := by
  cases h <;> rfl

end

/-! ## The statements over all operations -/

/-- Settles O32: `Effect.fire_ended` and `Effect.stop_ended`. -/
theorem onlyListedOperationsCancel : Obligations.OnlyListedOperationsCancel := by
  intro i s t h
  have heffect := effect_of_exec h
  exact ⟨heffect.fire_ended, heffect.stop_ended⟩

/-- Settles O47: `Effect.out_asserted` and `Effect.out_deasserted`. -/
theorem outputChangesOnlyByListedPaths : Obligations.OutputChangesOnlyByListedPaths := by
  intro i s t h
  have heffect := effect_of_exec h
  exact ⟨heffect.out_asserted, heffect.out_deasserted⟩

/-- A flag that has changed was either set or cleared. -/
theorem set_or_cleared_of_ne {a b : Bool} (h : a ≠ b) : (b = false ∧ a = true) ∨ (b = true ∧ a = false) := by
  cases a <;> cases b <;> simp_all

/-- Settles O49: the writers of the nine fields, a changed flag being one that was set or cleared. -/
theorem fieldsAreWrittenOnlyByTheirWriters : Obligations.FieldsAreWrittenOnlyByTheirWriters := by
  intro i s t h
  have heffect := effect_of_exec h
  refine ⟨heffect.level_changed, fun hne => ?out, fun hne => ?firePending, fun hs ht => (heffect.fire_armed hs ht).1,
    heffect.fire_cnt_changed, fun hne => ?stopPending, heffect.stop_armed, heffect.stop_cnt_changed, heffect.run_changed,
    heffect.zcPrev_changed, fun hanswer => ?answer, heffect.trace_eq⟩
  case out =>
    obtain ⟨hs, ht⟩ | ⟨hs, ht⟩ := set_or_cleared_of_ne hne
    · have hby := heffect.out_asserted hs ht
      unfold IsFall at hby
      tauto
    · have hby := heffect.out_deasserted hs ht
      unfold IsFall at hby
      tauto
  case firePending =>
    obtain ⟨hs, ht⟩ | ⟨hs, ht⟩ := set_or_cleared_of_ne hne
    · exact .inl (heffect.fire_armed hs ht).1
    · have hby := heffect.fire_ended hs ht
      unfold IsFall at hby
      tauto
  case stopPending =>
    obtain ⟨hs, ht⟩ | ⟨hs, ht⟩ := set_or_cleared_of_ne hne
    · exact .inl (heffect.stop_armed hs ht)
    · have hby := heffect.stop_ended hs ht
      tauto
  case answer =>
    by_contra hi
    exact hanswer (by rw [answerOf_eq, if_neg hi])

/-! ## Level 0 without a fire timer (44_output.md R157 item 3) -/

/-- The output is off and can only be asserted after an arming edge at another level. -/
def OffAtZero (s : State) : Prop := s.out = false ∧ s.fire.pending = false ∧ s.lvl.toNat = 0

/-- An edge or a TICK cannot assert, because no fire timer is due and the level is not 100; it cannot arm at level 0; and it
sets no level. -/
theorem Effect.offAtZero {i : Instr} {s t : State} (h : Effect i s t) (hi : isEdgeOrTick i = true) (hs : OffAtZero s) :
    OffAtZero t ∧ t.lvl = s.lvl := by
  obtain ⟨hout, hidle, hzero⟩ := hs
  have hlvl : t.lvl = s.lvl := by
    by_contra hne
    obtain ⟨v, rfl | rfl | rfl⟩ | rfl := h.level_changed (.inl hne) <;> cases hi
  refine ⟨⟨?out, ?fire, hlvl ▸ hzero⟩, hlvl⟩
  case out =>
    rw [← Bool.not_eq_true]
    intro ht
    obtain ⟨-, h100⟩ | ⟨-, hpending⟩ | ⟨-, hdue⟩ | rfl := h.out_asserted hout ht
    · omega
    · exact absurd (hidle.symm.trans hpending) Bool.false_ne_true
    · exact absurd ((channelDue_of_idle hidle).symm.trans hdue) Bool.false_ne_true
    · cases hi
  case fire =>
    rw [← Bool.not_eq_true]
    intro ht
    obtain ⟨-, h0, -⟩ := h.fire_armed hidle ht
    exact h0 hzero

/-- Settles O48: `Effect.offAtZero` along the run. -/
theorem levelZeroNeverAsserts : Obligations.LevelZeroNeverAsserts := by
  intro is s hout hidle hzero his
  obtain ⟨t, ht, ⟨hout', hidle', -⟩, hlvl⟩ : ∃ t, runOps is s = .next t ∧ OffAtZero t ∧ t.lvl = s.lvl := by
    refine runOps_keeps_of_effect (P := fun t => OffAtZero t ∧ t.lvl = s.lvl) (fun i hi u w heffect hu => ?_)
      ⟨⟨hout, hidle, hzero⟩, rfl⟩
    obtain ⟨hoff, hlvl⟩ := heffect.offAtZero (his i hi) hu.1
    exact ⟨hoff, hlvl.trans hu.2⟩
  exact ⟨t, ht, hout', hidle', hlvl⟩

/-! ## An idle channel (R122) -/

/-- Settles O33: only an edge of its kind arms an idle channel, and an expiry word finds nothing to do. -/
theorem cancelledTimerNeverExpires : Obligations.CancelledTimerNeverExpires := by
  refine ⟨fun is s hs his => runOps_keeps_of_effect (fun i hi u t h hidle => ?fire) hs,
    fun is s hs his => runOps_keeps_of_effect (fun i hi u t h hidle => ?stop) hs, fun s hs => ?fireExpire, fun s hs => ?stopExpire⟩
  case fire =>
    rw [← Bool.not_eq_true]
    intro ht
    obtain ⟨hfall | ⟨hsample, -⟩, -⟩ := h.fire_armed hidle ht
    · exact (his i hi).1 hfall
    · exact (his i hi).2 hsample
  case stop =>
    rw [← Bool.not_eq_true]
    intro ht
    obtain hrise | ⟨hsample, -⟩ := h.stop_armed hidle ht
    · exact (his i hi).1 hrise
    · exact (his i hi).2 hsample
  case fireExpire => rw [exec_fireExpire, fireExpireOn_of_not_pending (by simp [hs])]
  case stopExpire => rw [exec_stopExpire, stopExpireOn_of_not_pending (by simp [hs])]

/-! ## The channels do not interfere (R120) -/

/-- An operation of the fire channel writes that channel and the output, nothing else. -/
theorem exec_fireOperation {i : Instr} (hi : i ∈ [Instr.fall, .start, .stop, .fireExpire]) (s : State) :
    ∃ x b, exec i s = .next { s with fire := x, out := b } := by
  obtain ⟨t, ht, heffect⟩ := exec_effect i s
  cases heffect with
  | unchanged => exact ⟨s.fire, s.out, ht⟩
  | overrides b | fireExpires => exact ⟨_, _, ht⟩
  | fallForces | fallArms =>
    have hline : lineAfter i s = s.zcPrev := by
      by_contra hne
      obtain ⟨b, rfl⟩ := lineAfter_ne hne
      simp at hi
    rw [hline] at ht
    exact ⟨_, _, ht⟩
  | setsLevel _ _ hset => obtain ⟨v, rfl | rfl | rfl⟩ := hset <;> simp at hi
  | riseArms _ hrise => obtain rfl | ⟨rfl, -⟩ := hrise <;> simp at hi
  | _ => simp at hi

theorem zcPrev_eq_of_settings_eq {s t : State} (h : settings t = settings s) : t.zcPrev = s.zcPrev :=
  show (settings t).zcPrev = (settings s).zcPrev from congrArg State.zcPrev h

/-- Settles O50: the operations of the fire channel by `exec_fireOperation`, RISE and STOP_EXPIRE by their
rules, and TICK by the fields that it never writes. -/
theorem channelsDoNotInterfere : Obligations.ChannelsDoNotInterfere := by
  refine fun s => ⟨fun i hi => ?fire, ?rise, ?stopExpire, ?tick⟩
  case fire =>
    obtain ⟨x, b, ht⟩ := exec_fireOperation hi s
    exact ⟨_, ht, rfl, rfl, rfl, rfl, rfl, rfl⟩
  case rise =>
    refine ⟨_, exec_rise s, ?_⟩
    cases hrun : s.run with
    | false => rw [riseOn_of_dead hrun]; simp [hrun]
    | true => rw [riseOn_of_live hrun]; simp [hrun]
  case stopExpire =>
    refine ⟨_, exec_stopExpire s, ?_⟩
    by_cases h : s.run = true ∧ s.stop.pending = true
    · rw [stopExpireOn_of_pending h.1 h.2]
      exact ⟨fireAfterStopExpiry_cnt _, (fireAfterStopExpiry_of_not_cancels · _), rfl, rfl, rfl, rfl, rfl⟩
    · rw [stopExpireOn_of_not_pending h]
      exact ⟨rfl, fun _ => rfl, rfl, rfl, rfl, rfl, rfl⟩
  case tick =>
    have hset := settings_tickOn Config.current s
    exact ⟨_, exec_tick s, lvl_eq_of_settings_eq hset, fd_eq_of_settings_eq hset, run_eq_of_settings_eq hset,
      zcPrev_eq_of_settings_eq hset⟩

end Sys2Proof.Machine
end

section
/-! The timing law (42_timer.md section 3): a pending channel that nothing disturbs counts the TICKs and expires inside the one
that its count announces. -/

namespace Sys2Proof.Machine

/-! ## Counting -/

/-- The channel is pending with this many TICKs to go. -/
def PendingWith (ch : ChannelId) (n : Nat) (s : State) : Prop :=
  (channel ch s).pending = true ∧ (channel ch s).cnt.toNat = n

/-- Phase 1 of TICK on a pending channel that is not due. -/
theorem channelCount_of_one_lt {x : Channel} (hpending : x.pending = true) (hcnt : 1 < x.cnt.toNat) :
    (channelCount x).pending = true ∧ (channelCount x).cnt.toNat = x.cnt.toNat - 1 :=
  ⟨(channelCount_pending x).trans hpending, channelCount_cnt_toNat_of_one_lt hpending hcnt⟩

theorem disturbsFire_of_isFall {i : Instr} {s : State} (hi : IsFall i s) : disturbsFire Config.current i s = true := by
  obtain rfl | ⟨rfl, hzc⟩ := hi
  · rfl
  · simp [disturbsFire, hzc]

theorem disturbsStop_of_isRise {i : Instr} {s : State} (hi : IsRise i s) : disturbsStop i s = true := by
  obtain rfl | ⟨rfl, hzc⟩ := hi
  · rfl
  · simp [disturbsStop, hzc]

theorem IsFall.ne_tick {i : Instr} {s : State} (hi : IsFall i s) : i ≠ .tick := by
  rintro rfl
  simp [IsFall] at hi

theorem IsRise.ne_tick {i : Instr} {s : State} (hi : IsRise i s) : i ≠ .tick := by
  rintro rfl
  simp [IsRise] at hi

theorem SetsLevel.ne_tick {i : Instr} (hi : SetsLevel i) : i ≠ .tick := by
  rintro rfl
  simp [SetsLevel] at hi

/-- An operation that does not disturb a live block's stop channel leaves it pending, one TICK nearer or untouched. -/
theorem Effect.stop_counts {i : Instr} {s t : State} {n : Nat} (h : Effect i s t) (hrun : s.run = true)
    (hs : PendingWith .stop n s) (hundisturbed : disturbsStop i s = false) (hn : i = .tick → 1 < n) :
    PendingWith .stop (n - if i = .tick then 1 else 0) t := by
  obtain ⟨hpending, rfl⟩ := hs
  have hkept : t.stop = s.stop → i ≠ .tick → PendingWith .stop (s.stop.cnt.toNat - if i = .tick then 1 else 0) t := by
    intro hstop hi
    rw [if_neg hi, Nat.sub_zero, ← hstop]
    exact ⟨(congrArg _ hstop).trans hpending, rfl⟩
  have hdisturbed : disturbsStop i s = true → False := fun hdist =>
    Bool.false_ne_true (hundisturbed.symm.trans hdist)
  have hnotDue : i = .tick → channelDue s.stop = true → False := fun hi hdue =>
    Bool.false_ne_true ((channelDue_of_one_lt (hn hi)).symm.trans hdue)
  cases h with
  | unchanged hi => exact hkept rfl (hi hrun)
  | setsLevel _ _ hi => exact hkept rfl hi.ne_tick
  | overrides b _ hi => exact hkept rfl (by cases b <;> simp [hi])
  | fallForces _ _ hi | fallArms _ hi => exact hkept rfl hi.ne_tick
  | fireExpires => exact hkept rfl nofun
  | tickCounts | tickExpiresFire => exact channelCount_of_one_lt hpending (hn rfl)
  | tickExpiresStop _ _ hdue | tickExpiresBoth _ _ _ _ hdue => exact (hnotDue rfl hdue).elim
  | riseArms _ hi => exact (hdisturbed (disturbsStop_of_isRise hi)).elim
  | shutdown | stopExpires | reset => cases hundisturbed

/-- The same for the fire channel; a stop expiry does not disturb it exactly when the option of R127 is off. -/
theorem Effect.fire_counts {i : Instr} {s t : State} {n : Nat} (h : Effect i s t) (hrun : s.run = true)
    (hs : PendingWith .fire n s) (hundisturbed : disturbsFire Config.current i s = false) (hn : i = .tick → 1 < n) :
    PendingWith .fire (n - if i = .tick then 1 else 0) t := by
  obtain ⟨hpending, rfl⟩ := hs
  have hkept : t.fire = s.fire → i ≠ .tick → PendingWith .fire (s.fire.cnt.toNat - if i = .tick then 1 else 0) t := by
    intro hfire hi
    rw [if_neg hi, Nat.sub_zero, ← hfire]
    exact ⟨(congrArg _ hfire).trans hpending, rfl⟩
  have hdisturbed : disturbsFire Config.current i s = true → False := fun hdist =>
    Bool.false_ne_true (hundisturbed.symm.trans hdist)
  have hnotDue : i = .tick → channelDue s.fire = true → False := fun hi hdue =>
    Bool.false_ne_true ((channelDue_of_one_lt (hn hi)).symm.trans hdue)
  cases h with
  | unchanged hi => exact hkept rfl (hi hrun)
  | setsLevel _ _ hi => exact hkept rfl hi.ne_tick
  | riseArms _ hi => exact hkept rfl hi.ne_tick
  | stopExpires _ hstop =>
    have hoption : Config.current.stopExpiryCancelsFire = false := by simpa [disturbsFire, hstop] using hundisturbed
    exact hkept (fireAfterStopExpiry_of_not_cancels hoption _) nofun
  | tickCounts => exact channelCount_of_one_lt hpending (hn rfl)
  | tickExpiresStop _ _ hdue =>
    have hoption : Config.current.stopExpiryCancelsFire = false := by simpa [disturbsFire, hdue] using hundisturbed
    rw [fireAfterStopExpiry_of_not_cancels hoption]
    exact channelCount_of_one_lt hpending (hn rfl)
  | tickExpiresFire _ hdue | tickExpiresBoth _ _ _ hdue => exact (hnotDue rfl hdue).elim
  | overrides b _ hi => exact (hdisturbed (by cases b <;> simp [hi, disturbsFire])).elim
  | fallForces _ _ hi | fallArms _ hi => exact (hdisturbed (disturbsFire_of_isFall hi)).elim
  | shutdown | fireExpires | reset => cases hundisturbed

/-- The two laws in one, by channel. -/
theorem Effect.counts (ch : ChannelId) {i : Instr} {s t : State} {n : Nat} (h : Effect i s t) (hrun : s.run = true)
    (hs : PendingWith ch n s) (hundisturbed : disturbs Config.current ch i s = false) (hn : i = .tick → 1 < n) :
    PendingWith ch (n - if i = .tick then 1 else 0) t := by
  cases ch with
  | fire => exact h.fire_counts hrun hs hundisturbed hn
  | stop => exact h.stop_counts hrun hs hundisturbed hn

/-- What disturbs no channel does not end the run: SHUTDOWN disturbs both. -/
theorem Effect.run_of_undisturbed {ch : ChannelId} {i : Instr} {s t : State} (h : Effect i s t) (hrun : s.run = true)
    (hundisturbed : disturbs Config.current ch i s = false) : t.run = true := by
  by_contra hne
  obtain ⟨rfl, -⟩ | ⟨-, hlive⟩ := h.run_changed (fun heq => hne (heq.trans hrun))
  · cases ch <;> cases hundisturbed
  · exact hne hlive

/-- The law over a list: the count falls by the number of its TICKs, as long as that does not use it up. -/
theorem runOps_counts (ch : ChannelId) {is : List Instr} {s : State} {n : Nat} (hrun : s.run = true)
    (hs : PendingWith ch n s) (hundisturbed : undisturbed Config.current ch is s) (hn : ticksIn is < n) :
    ∃ t, runOps is s = .next t ∧ t.run = true ∧ PendingWith ch (n - ticksIn is) t := by
  induction is generalizing s n with
  | nil => exact ⟨s, rfl, hrun, hs⟩
  | cons i is ih =>
    obtain ⟨hi, his⟩ := hundisturbed
    obtain ⟨u, hu, heffect⟩ := exec_effect i s
    rw [ticksIn_cons] at hn
    have hu' := heffect.counts ch hrun hs hi fun htick => by simp only [if_pos htick] at hn; omega
    obtain ⟨t, ht, htrun, hcount⟩ := ih (heffect.run_of_undisturbed hrun hi) hu' (his u hu) (by omega)
    rw [Nat.sub_sub, Nat.add_comm, ← ticksIn_cons] at hcount
    exact ⟨t, (runOps_cons_next i is s u hu).trans ht, htrun, hcount⟩

/-! ## Expiring -/

theorem channelDue_of_cnt_one {x : Channel} (hpending : x.pending = true) (hcnt : x.cnt.toNat = 1) :
    channelDue x = true :=
  (channelDue_iff x).2 ⟨hpending, hcnt.le⟩

/-- The TICK that finds the stop channel due clears it; no fire expiry in that TICK, and the output is de-asserted (R123). -/
theorem tickOn_expires_stop (c : Config) {s : State} (hrun : s.run = true) (hdue : channelDue s.stop = true) :
    (tickOn c s).stop.pending = false ∧ (channelDue s.fire = false → (tickOn c s).out = false) := by
  cases hfire : channelDue s.fire with
  | false => rw [tickOn_of_stop_due hrun hfire hdue]; exact ⟨rfl, fun _ => rfl⟩
  | true => rw [tickOn_of_both_due_eq hrun hfire hdue]; exact ⟨rfl, nofun⟩

/-- The same for the fire channel, whose expiry asserts. -/
theorem tickOn_expires_fire (c : Config) {s : State} (hrun : s.run = true) (hdue : channelDue s.fire = true) :
    (tickOn c s).fire.pending = false ∧ (channelDue s.stop = false → (tickOn c s).out = true) := by
  cases hstop : channelDue s.stop with
  | false => rw [tickOn_of_fire_due hrun hdue hstop]; exact ⟨rfl, fun _ => rfl⟩
  | true => rw [tickOn_of_both_due_eq hrun hdue hstop]; exact ⟨rfl, nofun⟩

/-- Settles O38: `runOps_counts` up to the last TICK, which finds the channel due. -/
theorem stopTimerExpiresExactlyOnTime : Obligations.StopTimerExpiresExactlyOnTime := by
  intro is s hrun hpending hundisturbed hlt
  obtain ⟨t, ht, htrun, htpending, hcnt⟩ := runOps_counts .stop hrun ⟨hpending, rfl⟩ hundisturbed hlt
  refine ⟨t, ht, htrun, htpending, hcnt, fun hlast => ⟨_, exec_tick t, ?_⟩⟩
  have hone : t.stop.cnt.toNat = 1 := hcnt.trans (Nat.sub_eq_of_eq_add' hlast.symm)
  exact tickOn_expires_stop _ htrun (channelDue_of_cnt_one htpending hone)

/-- Settles O39: as for the stop channel. -/
theorem fireTimerExpiresExactlyOnTime : Obligations.FireTimerExpiresExactlyOnTime := by
  intro is s hrun hpending hundisturbed hlt
  obtain ⟨t, ht, htrun, htpending, hcnt⟩ := runOps_counts .fire hrun ⟨hpending, rfl⟩ hundisturbed hlt
  refine ⟨t, ht, htrun, htpending, hcnt, fun hlast => ⟨_, exec_tick t, ?_⟩⟩
  have hone : t.fire.cnt.toNat = 1 := hcnt.trans (Nat.sub_eq_of_eq_add' hlast.symm)
  exact tickOn_expires_fire _ htrun (channelDue_of_cnt_one htpending hone)

/-! ## TICKs while one channel runs alone -/

/-- The other channel (R120). -/
def otherChannel : ChannelId → ChannelId
  | .fire => .stop
  | .stop => .fire

/-- What the expiry of a channel drives (R125, R126). -/
def expiryOutput : ChannelId → Bool
  | .fire => true
  | .stop => false

@[simp] theorem channel_withChannel (ch : ChannelId) (x : Channel) (s : State) : channel ch (withChannel ch x s) = x := by
  cases ch <;> rfl

@[simp] theorem channel_otherChannel_withChannel (ch : ChannelId) (x : Channel) (s : State) :
    channel (otherChannel ch) (withChannel ch x s) = channel (otherChannel ch) s := by
  cases ch <;> rfl

@[simp] theorem withChannel_run (ch : ChannelId) (x : Channel) (s : State) : (withChannel ch x s).run = s.run := by
  cases ch <;> rfl

@[simp] theorem withChannel_withChannel (ch : ChannelId) (x y : Channel) (s : State) :
    withChannel ch x (withChannel ch y s) = withChannel ch x s := by
  cases ch <;> rfl

theorem withChannel_channel (ch : ChannelId) (s : State) : withChannel ch (channel ch s) s = s := by
  cases ch <;> rfl

theorem channelCount_of_idle {x : Channel} (hidle : x.pending = false) : channelCount x = x := by
  simp [channelCount, hidle]

/-- With the other channel idle, a TICK before the last one counts the channel and writes nothing else. -/
theorem tickOn_alone_counts {ch : ChannelId} {c : Config} {s : State} (hrun : s.run = true)
    (hnotDue : channelDue (channel ch s) = false) (halone : (channel (otherChannel ch) s).pending = false) :
    tickOn c s = withChannel ch (channelCount (channel ch s)) s := by
  cases ch with
  | fire =>
    rw [tickOn_of_not_due hrun hnotDue (channelDue_of_idle halone), countBoth, channelCount_of_idle (x := s.stop) halone]
    rfl
  | stop =>
    rw [tickOn_of_not_due hrun (channelDue_of_idle halone) hnotDue, countBoth, channelCount_of_idle (x := s.fire) halone]
    rfl

/-- With the other channel idle, the last TICK runs the expiry of the channel and writes nothing else. -/
theorem tickOn_alone_expires {ch : ChannelId} {c : Config} {s : State} (hrun : s.run = true)
    (hdue : channelDue (channel ch s) = true) (halone : (channel (otherChannel ch) s).pending = false) :
    tickOn c s = drive (expiryOutput ch) (cancel ch s) := by
  cases ch with
  | fire =>
    rw [tickOn_of_fire_due hrun hdue (channelDue_of_idle halone), channelCount_of_idle (x := s.stop) halone]
    rfl
  | stop =>
    have hidle : ({ s.fire with pending := false } : Channel) = s.fire := by
      rw [← (show s.fire.pending = false from halone)]
    rw [tickOn_of_stop_due hrun (channelDue_of_idle halone) hdue, channelCount_of_idle (x := s.fire) halone, hidle, ite_self]
    rfl

section
variable {ch : ChannelId} {s : State} (hrun : s.run = true) (hpending : (channel ch s).pending = true)
  (halone : (channel (otherChannel ch) s).pending = false)
include hrun hpending halone

/-- R124, "not before", with the whole state. -/
theorem runOps_ticks_alone {k : Nat} (hk : k < (channel ch s).cnt.toNat) :
    ∃ x : Count, x.toNat = (channel ch s).cnt.toNat - k ∧
      runOps (List.replicate k .tick) s = .next (withChannel ch { pending := true, cnt := x } s) := by
  induction k with
  | zero =>
    refine ⟨(channel ch s).cnt, rfl, ?_⟩
    rw [← hpending, withChannel_channel]
    rfl
  | succ k ih =>
    obtain ⟨x, hx, hrunk⟩ := ih (by omega)
    have hcnt : 1 < x.toNat := by omega
    have hcounts : channelCount { pending := true, cnt := x } = { pending := true, cnt := x - 1 } := by
      simp [channelCount, hcnt]
    refine ⟨x - 1, by bv_omega, ?_⟩
    rw [List.replicate_succ', runOps_append_next _ _ _ _ hrunk, runOps_singleton, exec_tick,
      tickOn_alone_counts (ch := ch) (by simpa) (by simp [channelDue, hcnt]) (by simpa), channel_withChannel, hcounts,
      withChannel_withChannel]

/-- R124, "exactly then", with the whole state. -/
theorem runOps_ticks_alone_expires (hpos : 1 ≤ (channel ch s).cnt.toNat) :
    ∃ x : Count, runOps (List.replicate (channel ch s).cnt.toNat .tick) s =
      .next (drive (expiryOutput ch) (withChannel ch { pending := false, cnt := x } s)) := by
  obtain ⟨k, hk⟩ := Nat.exists_eq_add_of_le' hpos
  obtain ⟨x, hx, hrunk⟩ := runOps_ticks_alone hrun hpending halone (k := k) (by omega)
  have hone : x.toNat = 1 := by omega
  refine ⟨x, ?_⟩
  rw [hk, List.replicate_succ', runOps_append_next _ _ _ _ hrunk, runOps_singleton, exec_tick,
    tickOn_alone_expires (ch := ch) (by simpa) (by simp [channelDue, hone]) (by simpa), cancel, channel_withChannel,
    withChannel_withChannel]

end

end Sys2Proof.Machine
end

section
/-! What an operation does not read. A level command reads `run` and `lvl` and writes the level pair; the operations of the timers
and the overrides read neither the pair nor the words to come; so the two kinds commute (43_level.md R146), no operation reads
the words to come (10_state.md R34), and none reads the count of an idle channel (R27). -/

namespace Sys2Proof.Machine

/-! ## The level commands (43_level.md R140 to R146) -/

/-- All that a level command can do to a state: nothing, or the write of one level. -/
def IsLevelWrite (F : State → State) : Prop := F = id ∨ ∃ L, F = writeLevel Config.current L

/-- What a level command does is decided by `run` and `lvl`. -/
theorem exec_levelCommand {i : Instr} (hi : isLevelCommand i = true) (s : State) :
    ∃ F, IsLevelWrite F ∧ ∀ u : State, u.run = s.run → u.lvl = s.lvl → exec i u = .next (F u) := by
  cases hrun : s.run with
  | false =>
    refine ⟨id, .inl rfl, fun u hu _ => exec_of_dead hu ?_⟩
    rintro rfl
    cases hi
  | true =>
    cases i with
    | nop => exact ⟨id, .inl rfl, fun u _ _ => exec_nop u⟩
    | getLevel => exact ⟨id, .inl rfl, fun u _ _ => exec_getLevel u⟩
    | setLevel v =>
      exact ⟨_, .inr ⟨_, rfl⟩, fun u hu _ => by rw [exec_setLevel, setLevelOn_of_live _ hu]⟩
    | increase v =>
      by_cases h100 : s.lvl.toNat = 100
      · refine ⟨id, .inl rfl, fun u _ hl => ?_⟩
        rw [exec_increase, increaseOn_of_not_writing _ (fun h => h.2 (hl ▸ h100))]
        rfl
      · refine ⟨_, .inr ⟨clampLevel (s.lvl.toNat + v.toNat), rfl⟩, fun u hu hl => ?_⟩
        rw [exec_increase, increaseOn_of_writing _ hu (hl ▸ h100), hl]
    | decrease v =>
      by_cases h0 : s.lvl.toNat = 0
      · refine ⟨id, .inl rfl, fun u _ hl => ?_⟩
        rw [exec_decrease, decreaseOn_of_not_writing _ (fun h => h.2 (hl ▸ h0))]
        rfl
      · refine ⟨_, .inr ⟨clampLevel (levelMinus s.lvl v.toNat), rfl⟩, fun u hu hl => ?_⟩
        rw [exec_decrease, decreaseOn_of_writing _ hu (hl ▸ h0), hl]
    | _ => cases hi

/-- Settles O24: a level command writes nothing or the level pair. -/
theorem levelCommandsLeaveTimersAndOutput : Obligations.LevelCommandsLeaveTimersAndOutput := by
  intro i s hi
  obtain ⟨F, hF, hexec⟩ := exec_levelCommand hi s
  refine ⟨F s, hexec s rfl rfl, ?_⟩
  obtain rfl | ⟨L, rfl⟩ := hF <;> exact ⟨rfl, rfl, rfl, rfl, rfl, rfl, rfl⟩

/-- Writing the level that both registers already hold changes nothing. -/
theorem writeLevel_self {c : Config} {s : State} (hlvl : s.lvl.toNat ≤ 100) (hfd : s.fd = fdValue c (clampLevel s.lvl.toNat)) :
    writeLevel c (clampLevel s.lvl.toNat) s = s := by
  have hreg : levelReg (clampLevel s.lvl.toNat) = s.lvl := by
    apply BitVec.eq_of_toNat_eq
    rw [levelReg_toNat, clampLevel_val, min_eq_left hlvl]
  rw [writeLevel, hreg, ← hfd]

/-- Settles O23: the saturated result fits the operand of SET_LEVEL; at the level where a step command does nothing SET_LEVEL
writes the level that is there (`writeLevel_self`). -/
theorem stepCommandsEqualSetLevel : Obligations.StepCommandsEqualSetLevel := by
  intro v s hlvl hfd
  have hself := writeLevel_self hlvl hfd
  cases hrun : s.run with
  | false =>
    have hnothing : ∀ i, i ≠ .reset → exec i s = .next s := fun _ => exec_of_dead hrun
    rw [hnothing (.increase v) nofun, hnothing (.decrease v) nofun, hnothing (.setLevel _) nofun,
      hnothing (.setLevel _) nofun]
    exact ⟨rfl, rfl⟩
  | true =>
    constructor
    · have hoperand : (BitVec.ofNat 8 (min (s.lvl.toNat + v.toNat) 100)).toNat = min (s.lvl.toNat + v.toNat) 100 := by
        rw [BitVec.toNat_ofNat]; omega
      rw [exec_increase, exec_setLevel, setLevelOn_of_live _ hrun, hoperand]
      by_cases h100 : s.lvl.toNat = 100
      · have hsame : min (s.lvl.toNat + v.toNat) 100 = s.lvl.toNat := by omega
        rw [increaseOn_of_not_writing _ (fun h => h.2 h100), hsame, hself]
      · rw [increaseOn_of_writing _ hrun h100, ← clampLevel_levelPlus, levelPlus]
    · have hoperand : (BitVec.ofNat 8 (s.lvl.toNat - v.toNat)).toNat = s.lvl.toNat - v.toNat := by
        rw [BitVec.toNat_ofNat]; omega
      rw [exec_decrease, exec_setLevel, setLevelOn_of_live _ hrun, hoperand]
      by_cases h0 : s.lvl.toNat = 0
      · have hsame : s.lvl.toNat - v.toNat = s.lvl.toNat := by omega
        rw [decreaseOn_of_not_writing _ (fun h => h.2 h0), hsame, hself]
      · rw [decreaseOn_of_writing _ hrun h0, levelMinus]

/-! ## The operations that read neither the level nor the words to come -/

/-- The state with other values in the level pair and other words to come. -/
def withUnread (l : Byte) (d : Delay) (ws : List EventWord) (s : State) : State := { s with lvl := l, fd := d, trace := ws }

/-- `op` neither reads nor writes the level pair and the words to come. -/
def IgnoresUnread (op : State → State) : Prop := ∀ l d ws s, op (withUnread l d ws s) = withUnread l d ws (op s)

theorem ignoresUnread_overrideOn (b : Bool) : IgnoresUnread (overrideOn b) :=
  fun l d ws s => (apply_ite (withUnread l d ws) (s.run = true) (forceOutput b s) s).symm

theorem ignoresUnread_riseOn (c : Config) : IgnoresUnread (riseOn c) :=
  fun l d ws s => (apply_ite (withUnread l d ws) (s.run = true) (arm .stop c.stopDelayUsec s) s).symm

theorem ignoresUnread_fireExpireOn : IgnoresUnread fireExpireOn := by
  intro l d ws s
  by_cases h : s.run = true ∧ s.fire.pending = true
  · rw [fireExpireOn_of_pending h.1 h.2]
    exact fireExpireOn_of_pending (s := withUnread l d ws s) h.1 h.2
  · rw [fireExpireOn_of_not_pending h]
    exact fireExpireOn_of_not_pending (s := withUnread l d ws s) h

theorem ignoresUnread_stopExpireOn (c : Config) : IgnoresUnread (stopExpireOn c) := by
  intro l d ws s
  by_cases h : s.run = true ∧ s.stop.pending = true
  · rw [stopExpireOn_of_pending h.1 h.2]
    exact stopExpireOn_of_pending (s := withUnread l d ws s) h.1 h.2
  · rw [stopExpireOn_of_not_pending h]
    exact stopExpireOn_of_not_pending (s := withUnread l d ws s) h

/-- Each rule of TICK is chosen by `run` and the channels alone. -/
theorem ignoresUnread_tickOn (c : Config) : IgnoresUnread (tickOn c) := by
  intro l d ws s
  cases hrun : s.run with
  | false =>
    rw [tickOn_of_dead hrun]
    exact tickOn_of_dead (s := withUnread l d ws s) hrun
  | true =>
    cases hfire : channelDue s.fire <;> cases hstop : channelDue s.stop
    · rw [tickOn_of_not_due hrun hfire hstop]
      exact tickOn_of_not_due (s := withUnread l d ws s) hrun hfire hstop
    · rw [tickOn_of_stop_due hrun hfire hstop]
      exact tickOn_of_stop_due (s := withUnread l d ws s) hrun hfire hstop
    · rw [tickOn_of_fire_due hrun hfire hstop]
      exact tickOn_of_fire_due (s := withUnread l d ws s) hrun hfire hstop
    · rw [tickOn_of_both_due_eq hrun hfire hstop]
      exact tickOn_of_both_due_eq (s := withUnread l d ws s) hrun hfire hstop

/-- The operations that R146 item 4 names. -/
theorem exec_ignoresUnread {e : Instr} (he : e ∈ [Instr.tick, .rise, .fireExpire, .stopExpire, .start, .stop]) :
    ∃ op, (∀ s, exec e s = .next (op s)) ∧ (∀ s, settings (op s) = settings s) ∧ IgnoresUnread op := by
  have hoverride : ∀ b s, settings (overrideOn b s) = settings s := by
    intro b s
    unfold overrideOn forceOutput
    split <;> simp
  simp only [List.mem_cons, List.not_mem_nil, or_false] at he
  obtain rfl | rfl | rfl | rfl | rfl | rfl := he
  · exact ⟨_, exec_tick, settings_tickOn _, ignoresUnread_tickOn _⟩
  · exact ⟨_, exec_rise, settings_riseOn _, ignoresUnread_riseOn _⟩
  · exact ⟨_, exec_fireExpire, settings_fireExpireOn, ignoresUnread_fireExpireOn⟩
  · exact ⟨_, exec_stopExpire, settings_stopExpireOn _, ignoresUnread_stopExpireOn _⟩
  · exact ⟨_, exec_start, hoverride true, ignoresUnread_overrideOn true⟩
  · exact ⟨_, exec_stop, hoverride false, ignoresUnread_overrideOn false⟩

/-! ## Commuting (R146 item 4) -/

/-- A write of the level pair passes through an operation that ignores it. -/
theorem IsLevelWrite.comm {F op : State → State} (hF : IsLevelWrite F) (hset : ∀ s, settings (op s) = settings s)
    (hop : IgnoresUnread op) (s : State) : op (F s) = F (op s) := by
  obtain rfl | ⟨L, rfl⟩ := hF
  · rfl
  · have htrace : (op s).trace = s.trace :=
      show (settings (op s)).trace = (settings s).trace from congrArg State.trace (hset s)
    have hwrite : withUnread (levelReg L) (fdValue Config.current L) s.trace (op s) = writeLevel Config.current L (op s) := by
      rw [← htrace]
      rfl
    rw [← hwrite, ← hop]
    rfl

theorem answersOf_pair {i j : Instr} {s t u : State} (hi : exec i s = .next t) (hj : exec j t = .next u) :
    answersOf [i, j] s = (answerOf i s).toList ++ (answerOf j t).toList := by
  rw [answersOf_cons_next i _ s t hi, answersOf_cons_next j _ t u hj, answersOf_nil, List.append_nil]

/-- Settles O25: the level command decides on `run` and `lvl`, which the other operation keeps, and its write passes through
(`IsLevelWrite.comm`); only GET_LEVEL answers, with a level that the other operation keeps. -/
theorem levelCommandsCommute : Obligations.LevelCommandsCommute := by
  intro l e s hl he
  obtain ⟨F, hF, hcommand⟩ := exec_levelCommand hl s
  obtain ⟨op, hexec, hset, hop⟩ := exec_ignoresUnread he
  have hrun := run_eq_of_settings_eq (hset s)
  have hlvl := lvl_eq_of_settings_eq (hset s)
  have hfirst := hcommand s rfl rfl
  have hsecond := hcommand (op s) hrun hlvl
  refine ⟨⟨F (op s), ?_, ?_⟩, ?_⟩
  · rw [runOps_cons_next _ _ _ _ hfirst, runOps_singleton, hexec, hF.comm hset hop]
  · rw [runOps_cons_next _ _ _ _ (hexec s), runOps_singleton, hsecond]
  · have hsilent : ∀ u, answerOf e u = none := fun u => by
      rw [answerOf_eq, if_neg]
      rintro rfl
      simp at he
    rw [answersOf_pair hfirst (hexec _), answersOf_pair (hexec s) hsecond, hsilent, hsilent, answerOf_eq l s,
      answerOf_eq l (op s), hlvl]
    simp

/-! ## The words to come are never read (R34) -/

/-- The state with other words to come. -/
def withTrace (ws : List EventWord) (s : State) : State := { s with trace := ws }

theorem fallOn_withTrace (ws : List EventWord) (s : State) : fallOn (withTrace ws s) = withTrace ws (fallOn s) := by
  cases hrun : s.run with
  | false =>
    rw [fallOn_of_dead hrun]
    exact fallOn_of_dead (s := withTrace ws s) hrun
  | true =>
    by_cases h100 : s.lvl.toNat = 100
    · rw [fallOn_of_hundred hrun h100]
      exact fallOn_of_hundred (s := withTrace ws s) hrun h100
    by_cases h0 : s.lvl.toNat = 0
    · rw [fallOn_of_zero hrun h0]
      exact fallOn_of_zero (s := withTrace ws s) hrun h0
    rw [fallOn_of_armed hrun h0 h100]
    exact fallOn_of_armed (s := withTrace ws s) hrun h0 h100

/-- The pair that `s` holds written into `op s`, which kept it, changes nothing. -/
theorem IgnoresUnread.withTrace {op : State → State} (hop : IgnoresUnread op) (hset : ∀ s, settings (op s) = settings s)
    (ws : List EventWord) (s : State) : op (withTrace ws s) = withTrace ws (op s) := by
  have hpair : withUnread s.lvl s.fd ws (op s) = Machine.withTrace ws (op s) := by
    rw [← lvl_eq_of_settings_eq (hset s), ← fd_eq_of_settings_eq (hset s)]
    rfl
  exact (hop s.lvl s.fd ws s).trans hpair

theorem sampleOn_withTrace (c : Config) (b : Bool) (ws : List EventWord) (s : State) :
    sampleOn c b (withTrace ws s) = withTrace ws (sampleOn c b s) := by
  cases hrun : s.run with
  | false =>
    rw [sampleOn_of_dead b hrun]
    exact sampleOn_of_dead (s := withTrace ws s) b hrun
  | true =>
    by_cases hequal : b = s.zcPrev
    · rw [hequal, sampleOn_of_equal]
      exact sampleOn_of_equal c (withTrace ws s)
    have hzc : s.zcPrev = !b := Bool.eq_not_of_ne (Ne.symm hequal)
    cases b with
    | false =>
      rw [sampleOn_of_falling hrun hzc, sampleOn_of_falling (s := withTrace ws s) hrun hzc]
      exact fallOn_withTrace ws { s with zcPrev := false }
    | true =>
      rw [sampleOn_of_rising hrun hzc, sampleOn_of_rising (s := withTrace ws s) hrun hzc]
      exact (ignoresUnread_riseOn c).withTrace (settings_riseOn c) ws { s with zcPrev := true }

/-- Other words to come change nothing in the next state but themselves. -/
theorem exec_withTrace (i : Instr) (ws : List EventWord) {s t : State} (h : exec i s = .next t) :
    exec i (withTrace ws s) = .next (withTrace ws t) := by
  by_cases hcommand : isLevelCommand i = true
  · obtain ⟨F, hF, hexec⟩ := exec_levelCommand hcommand s
    obtain rfl : F s = t := Host.Outcome.next.inj ((hexec s rfl rfl).symm.trans h)
    rw [hexec (withTrace ws s) rfl rfl]
    obtain rfl | ⟨L, rfl⟩ := hF <;> rfl
  by_cases hignores : i ∈ [Instr.tick, .rise, .fireExpire, .stopExpire, .start, .stop]
  · obtain ⟨op, hexec, hset, hop⟩ := exec_ignoresUnread hignores
    obtain rfl : op s = t := Host.Outcome.next.inj ((hexec s).symm.trans h)
    rw [hexec, hop.withTrace hset]
  cases i with
  | fall =>
    cases h
    exact congrArg _ (fallOn_withTrace ws s)
  | sample b =>
    cases h
    exact congrArg _ (sampleOn_withTrace _ b ws s)
  | shutdown =>
    cases h
    rw [exec_shutdown]
    cases hrun : s.run with
    | false => rw [shutdownOn_of_dead hrun, shutdownOn_of_dead (s := withTrace ws s) hrun]
    | true =>
      rw [shutdownOn_of_live hrun, shutdownOn_of_live (s := withTrace ws s) hrun]
      rfl
  | reset =>
    cases h
    rfl
  | _ => simp [isLevelCommand] at hcommand hignores

/-- Settles O52: `exec_withTrace`; an answer is GET_LEVEL's and the level; a step reads one word. -/
theorem answerAndTraceAreNeverRead : Obligations.AnswerAndTraceAreNeverRead := by
  refine ⟨fun i s ws => ?_, fun i s t hlvl => ?_, fun s ws => ?_⟩
  · obtain ⟨t, ht⟩ := exec_total i s
    exact ⟨t, ht, exec_withTrace i ws ht⟩
  · rw [answerOf_eq, answerOf_eq, hlvl]
  · have hfetch : fetchWord { s with trace := fetchWord s :: ws } = fetchWord s := rfl
    rw [stepAnswer, stepAnswer, hfetch]
    cases decode (fetchWord s) with
    | ok i => exact (answerOf_eq i _).trans (answerOf_eq i _).symm
    | error e => rfl

/-! ## The count of an idle channel is never read (R27) -/

/-- Two channels of which at most an idle count differs are equal or both idle. -/
theorem sameChannel_iff {x y : Channel} : sameChannel x y ↔ x = y ∨ (x.pending = false ∧ y.pending = false) := by
  obtain ⟨p, n⟩ := x
  obtain ⟨q, m⟩ := y
  cases p <;> cases q <;> simp [sameChannel]

theorem sameChannel_refl (x : Channel) : sameChannel x x := sameChannel_iff.2 (.inl rfl)

theorem sameChannel_cancelled (n m : Count) : sameChannel { pending := false, cnt := n } { pending := false, cnt := m } :=
  sameChannel_iff.2 (.inr ⟨rfl, rfl⟩)

section
variable {x y : Channel} (h : sameChannel x y)
include h

theorem sameChannel.channelDue_eq : channelDue y = channelDue x := by
  obtain rfl | ⟨hx, hy⟩ := sameChannel_iff.1 h
  · rfl
  · rw [channelDue_of_idle hx, channelDue_of_idle hy]

theorem sameChannel.channelCount : sameChannel (channelCount x) (channelCount y) := by
  obtain rfl | ⟨hx, hy⟩ := sameChannel_iff.1 h
  · exact sameChannel_refl _
  · rwa [channelCount_of_idle hx, channelCount_of_idle hy]

/-- A stop expiry cancels both or neither. -/
theorem sameChannel.afterStopExpiry : sameChannel (fireAfterStopExpiry x) (fireAfterStopExpiry y) := by
  unfold fireAfterStopExpiry
  split
  · exact sameChannel_cancelled _ _
  · exact h

end

/-- The second state is the first with other channels. -/
theorem sameButIdleCounts.exists_channels {s t : State} (h : sameButIdleCounts s t) :
    ∃ x y, sameChannel s.fire x ∧ sameChannel s.stop y ∧ t = { s with fire := x, stop := y } := by
  obtain ⟨hfire, hstop, ht⟩ := h
  exact ⟨t.fire, t.stop, hfire, hstop, ht.symm⟩

theorem sameButIdleCounts.fallOn {s t : State} (h : sameButIdleCounts s t) (hrun : s.run = true) :
    sameButIdleCounts (fallOn s) (fallOn t) := by
  obtain ⟨x, y, hx, hy, rfl⟩ := h.exists_channels
  by_cases h100 : s.lvl.toNat = 100
  · rw [fallOn_of_hundred hrun h100, fallOn_of_hundred (s := { s with fire := x, stop := y }) hrun h100]
    exact ⟨sameChannel_cancelled _ _, hy, rfl⟩
  by_cases h0 : s.lvl.toNat = 0
  · rw [fallOn_of_zero hrun h0, fallOn_of_zero (s := { s with fire := x, stop := y }) hrun h0]
    exact ⟨sameChannel_cancelled _ _, hy, rfl⟩
  rw [fallOn_of_armed hrun h0 h100, fallOn_of_armed (s := { s with fire := x, stop := y }) hrun h0 h100]
  exact ⟨sameChannel_refl _, hy, rfl⟩

theorem sameButIdleCounts.riseOn {c : Config} {s t : State} (h : sameButIdleCounts s t) (hrun : s.run = true) :
    sameButIdleCounts (riseOn c s) (riseOn c t) := by
  obtain ⟨x, y, hx, hy, rfl⟩ := h.exists_channels
  rw [riseOn_of_live hrun, riseOn_of_live (s := { s with fire := x, stop := y }) hrun]
  exact ⟨hx, sameChannel_refl _, rfl⟩

theorem sameButIdleCounts.sampleOn {c : Config} {b : Bool} {s t : State} (h : sameButIdleCounts s t) (hrun : s.run = true) :
    sameButIdleCounts (sampleOn c b s) (sampleOn c b t) := by
  obtain ⟨x, y, hx, hy, rfl⟩ := h.exists_channels
  by_cases hequal : b = s.zcPrev
  · subst hequal
    rw [sampleOn_of_equal]
    exact (sampleOn_of_equal c { s with fire := x, stop := y }).symm ▸ h
  have hzc : s.zcPrev = !b := Bool.eq_not_of_ne (Ne.symm hequal)
  cases b with
  | false =>
    rw [sampleOn_of_falling hrun hzc, sampleOn_of_falling (s := { s with fire := x, stop := y }) hrun hzc]
    exact sameButIdleCounts.fallOn (s := { s with zcPrev := false }) ⟨hx, hy, rfl⟩ hrun
  | true =>
    rw [sampleOn_of_rising hrun hzc, sampleOn_of_rising (s := { s with fire := x, stop := y }) hrun hzc]
    exact sameButIdleCounts.riseOn (s := { s with zcPrev := true }) ⟨hx, hy, rfl⟩ hrun

theorem sameButIdleCounts.forceOutput {b : Bool} {s t : State} (h : sameButIdleCounts s t) :
    sameButIdleCounts (forceOutput b s) (forceOutput b t) := by
  obtain ⟨x, y, hx, hy, rfl⟩ := h.exists_channels
  exact ⟨sameChannel_cancelled _ _, hy, rfl⟩

theorem sameButIdleCounts.fireExpireOn {s t : State} (h : sameButIdleCounts s t) :
    sameButIdleCounts (fireExpireOn s) (fireExpireOn t) := by
  obtain ⟨x, y, hx, hy, rfl⟩ := h.exists_channels
  by_cases hlive : s.run = true ∧ s.fire.pending = true
  · have hlive' : s.run = true ∧ x.pending = true := ⟨hlive.1, hx.1.symm.trans hlive.2⟩
    rw [fireExpireOn_of_pending hlive.1 hlive.2,
      fireExpireOn_of_pending (s := { s with fire := x, stop := y }) hlive'.1 hlive'.2]
    exact ⟨sameChannel_cancelled _ _, hy, rfl⟩
  · have hlive' : ¬ (s.run = true ∧ x.pending = true) := hx.1 ▸ hlive
    rw [fireExpireOn_of_not_pending hlive, fireExpireOn_of_not_pending (s := { s with fire := x, stop := y }) hlive']
    exact h

theorem sameButIdleCounts.stopExpireOn {s t : State} (h : sameButIdleCounts s t) :
    sameButIdleCounts (stopExpireOn Config.current s) (stopExpireOn Config.current t) := by
  obtain ⟨x, y, hx, hy, rfl⟩ := h.exists_channels
  by_cases hlive : s.run = true ∧ s.stop.pending = true
  · have hlive' : s.run = true ∧ y.pending = true := ⟨hlive.1, hy.1.symm.trans hlive.2⟩
    rw [stopExpireOn_of_pending hlive.1 hlive.2,
      stopExpireOn_of_pending (s := { s with fire := x, stop := y }) hlive'.1 hlive'.2]
    exact ⟨hx.afterStopExpiry, sameChannel_cancelled _ _, rfl⟩
  · have hlive' : ¬ (s.run = true ∧ y.pending = true) := hy.1 ▸ hlive
    rw [stopExpireOn_of_not_pending hlive, stopExpireOn_of_not_pending (s := { s with fire := x, stop := y }) hlive']
    exact h

/-- The same rule of TICK applies to both states. -/
theorem sameButIdleCounts.tickOn {s t : State} (h : sameButIdleCounts s t) (hrun : s.run = true) :
    sameButIdleCounts (tickOn Config.current s) (tickOn Config.current t) := by
  obtain ⟨x, y, hx, hy, rfl⟩ := h.exists_channels
  cases hfire : channelDue s.fire <;> cases hstop : channelDue s.stop
  all_goals
    have hfire' := hx.channelDue_eq.trans hfire
    have hstop' := hy.channelDue_eq.trans hstop
  · rw [tickOn_of_not_due hrun hfire hstop, tickOn_of_not_due (s := { s with fire := x, stop := y }) hrun hfire' hstop']
    exact ⟨hx.channelCount, hy.channelCount, rfl⟩
  · rw [tickOn_of_stop_due hrun hfire hstop, tickOn_of_stop_due (s := { s with fire := x, stop := y }) hrun hfire' hstop']
    exact ⟨hx.channelCount.afterStopExpiry, sameChannel_cancelled _ _, rfl⟩
  · rw [tickOn_of_fire_due hrun hfire hstop, tickOn_of_fire_due (s := { s with fire := x, stop := y }) hrun hfire' hstop']
    exact ⟨sameChannel_cancelled _ _, hy.channelCount, rfl⟩
  · rw [tickOn_of_both_due_eq hrun hfire hstop,
      tickOn_of_both_due_eq (s := { s with fire := x, stop := y }) hrun hfire' hstop']
    exact ⟨sameChannel_cancelled _ _, sameChannel_cancelled _ _, rfl⟩

/-- RESET writes all but the words to come, so it ends in the same state. -/
theorem sameButIdleCounts.resetOn {c : Config} {s t : State} (h : sameButIdleCounts s t) :
    sameButIdleCounts (resetOn c s) (resetOn c t) := by
  obtain ⟨x, y, -, -, rfl⟩ := h.exists_channels
  exact ⟨sameChannel_refl _, sameChannel_refl _, rfl⟩

theorem sameButIdleCounts.run_eq {s t : State} (h : sameButIdleCounts s t) : t.run = s.run := by
  obtain ⟨x, y, -, -, rfl⟩ := h.exists_channels
  rfl

theorem sameButIdleCounts.lvl_eq {s t : State} (h : sameButIdleCounts s t) : t.lvl = s.lvl := by
  obtain ⟨x, y, -, -, rfl⟩ := h.exists_channels
  rfl

theorem sameButIdleCounts.levelWrite {F : State → State} (hF : IsLevelWrite F) {s t : State} (h : sameButIdleCounts s t) :
    sameButIdleCounts (F s) (F t) := by
  obtain ⟨x, y, hx, hy, rfl⟩ := h.exists_channels
  obtain rfl | ⟨L, rfl⟩ := hF <;> exact ⟨hx, hy, rfl⟩

/-- Every operation keeps two states apart in idle counts alone. -/
theorem sameButIdleCounts.exec (i : Instr) {s t : State} (h : sameButIdleCounts s t) :
    ∃ s' t', exec i s = .next s' ∧ exec i t = .next t' ∧ sameButIdleCounts s' t' := by
  by_cases hreset : i = .reset
  · subst hreset
    exact ⟨_, _, exec_reset s, exec_reset t, h.resetOn⟩
  cases hrun : s.run with
  | false => exact ⟨s, t, exec_of_dead hrun hreset, exec_of_dead (h.run_eq.trans hrun) hreset, h⟩
  | true =>
    have hrun' := h.run_eq.trans hrun
    by_cases hcommand : isLevelCommand i = true
    · obtain ⟨F, hF, hexec⟩ := exec_levelCommand hcommand s
      exact ⟨F s, F t, hexec s rfl rfl, hexec t h.run_eq h.lvl_eq, h.levelWrite hF⟩
    cases i with
    | start =>
      refine ⟨_, _, exec_start s, exec_start t, ?_⟩
      rw [overrideOn_of_live hrun, overrideOn_of_live hrun']
      exact h.forceOutput
    | stop =>
      refine ⟨_, _, exec_stop s, exec_stop t, ?_⟩
      rw [overrideOn_of_live hrun, overrideOn_of_live hrun']
      exact h.forceOutput
    | shutdown =>
      refine ⟨_, _, exec_shutdown s, exec_shutdown t, ?_⟩
      rw [shutdownOn_of_live hrun, shutdownOn_of_live hrun']
      obtain ⟨x, y, -, -, rfl⟩ := h.exists_channels
      exact ⟨sameChannel_cancelled _ _, sameChannel_cancelled _ _, rfl⟩
    | fall => exact ⟨_, _, exec_fall s, exec_fall t, h.fallOn hrun⟩
    | rise => exact ⟨_, _, exec_rise s, exec_rise t, h.riseOn hrun⟩
    | sample b => exact ⟨_, _, exec_sample b s, exec_sample b t, h.sampleOn hrun⟩
    | tick => exact ⟨_, _, exec_tick s, exec_tick t, h.tickOn hrun⟩
    | fireExpire => exact ⟨_, _, exec_fireExpire s, exec_fireExpire t, h.fireExpireOn⟩
    | stopExpire => exact ⟨_, _, exec_stopExpire s, exec_stopExpire t, h.stopExpireOn⟩
    | reset => exact absurd rfl hreset
    | _ => exact absurd rfl hcommand

/-- Settles O51: `sameButIdleCounts.exec`; both states fetch the same word, and taking it touches no channel. -/
theorem idleCountsAreNeverRead : Obligations.IdleCountsAreNeverRead := by
  refine ⟨fun i s t h => h.exec i, fun s t h => ?_⟩
  obtain ⟨x, y, hx, hy, rfl⟩ := h.exists_channels
  have hfetch : fetchWord { s with fire := x, stop := y } = fetchWord s := rfl
  have hafter : sameButIdleCounts (afterFetch s) (afterFetch { s with fire := x, stop := y }) := ⟨hx, hy, rfl⟩
  cases hdecode : decode (fetchWord s) with
  | ok i =>
    rw [step_of_decode_ok hdecode, step_of_decode_ok (hfetch ▸ hdecode)]
    exact .inl (hafter.exec i)
  | error e =>
    obtain ⟨op⟩ := e
    exact .inr ⟨_, step_of_decode_error hdecode, step_of_decode_error (hfetch ▸ hdecode)⟩

end Sys2Proof.Machine
end

section
/-! The invariants of the reachable states (10_state.md R29), the sequencing triples and the intended cycle (R32, 41_zero_cross.md
R117), and the hazards that follow from the timing law (70_reset_and_hazards.md R205, R206, R212). -/

namespace Sys2Proof.Machine

/-! ## The invariants (R29) -/

/-- Items 3 and 4: a pending count lies between 1 and `m`. -/
def CountWithin (m : Int) (x : Channel) : Prop := x.pending = true → 1 ≤ x.cnt.toNat ∧ (x.cnt.toNat : Int) ≤ m

/-- The five items, the two bounds of each channel together. -/
theorem inv_iff {c : Config} {s : State} :
    Inv c s ↔
      s.lvl.toNat ≤ 100 ∧ s.fd.toInt = fireDelay c (clampLevel s.lvl.toNat) ∧ CountWithin (fireDelay c 1) s.fire ∧
      CountWithin c.stopDelayUsec s.stop ∧
      (s.run = false → s.out = false ∧ s.fire.pending = false ∧ s.stop.pending = false) := by
  have hbound : (c.halfPeriodUsec : Int) - c.sensorLagUsec - scaled c 1 = fireDelay c 1 := by
    unfold fireDelay; omega
  constructor
  · rintro ⟨hlvl, hfd, hfireLow, hfireHigh, hstopLow, hstopHigh, hdead⟩
    exact ⟨hlvl, hfd, fun hp => ⟨hfireLow hp, hbound ▸ hfireHigh hp⟩,
      fun hp => ⟨hstopLow hp, Int.ofNat_le.2 (hstopHigh hp)⟩, hdead⟩
  · rintro ⟨hlvl, hfd, hfire, hstop, hdead⟩
    exact ⟨hlvl, hfd, fun hp => (hfire hp).1, fun hp => hbound ▸ (hfire hp).2, fun hp => (hstop hp).1,
      fun hp => Int.ofNat_le.1 (hstop hp).2, hdead⟩

theorem countWithin_idle (m : Int) (n : Count) : CountWithin m { pending := false, cnt := n } := nofun

/-- Counting down stops at 1, where the channel is due. -/
theorem CountWithin.channelCount {m : Int} {x : Channel} (h : CountWithin m x) : CountWithin m (channelCount x) := by
  intro hpending
  rw [channelCount_pending] at hpending
  obtain ⟨hlow, hhigh⟩ := h hpending
  rw [channelCount_cnt_toNat]
  split_ifs <;> omega

theorem CountWithin.afterStopExpiry {m : Int} {x : Channel} (h : CountWithin m x) :
    CountWithin m (fireAfterStopExpiry x) := by
  unfold fireAfterStopExpiry
  split
  · exact countWithin_idle m _
  · exact h

/-- Items 1 and 2 for the pair that a level write leaves. -/
theorem levelPair_of_write {c : Config} (hc : c.wf = true) (L : Level) :
    (levelReg L).toNat ≤ 100 ∧ (fdValue c L).toInt = fireDelay c (clampLevel (levelReg L).toNat) := by
  rw [clampLevel_levelReg, levelReg_toNat]
  exact ⟨Fin.is_le L, fdValue_toInt hc L⟩

/-- At the levels that arm, the delay that the pair holds is loaded as it is, and level 1 has the largest. -/
theorem armCount_fd_toNat {c : Config} (hc : c.wf = true) {s : State}
    (hfd : s.fd.toInt = fireDelay c (clampLevel s.lvl.toNat)) (h1 : 1 ≤ s.lvl.toNat) (h99 : s.lvl.toNat ≤ 99) :
    ((armCount s.fd.toInt).toNat : Int) = s.fd.toInt ∧ 1 ≤ s.fd.toInt ∧ s.fd.toInt ≤ fireDelay c 1 := by
  obtain ⟨_, hmono, -⟩ := c.wf_iff.1 hc
  have hL1 : 1 ≤ (clampLevel s.lvl.toNat).val := by rw [clampLevel_val]; omega
  have hL99 : (clampLevel s.lvl.toNat).val ≤ 99 := by rw [clampLevel_val]; omega
  obtain ⟨hpos, hmax⟩ := fireDelay_bounds_of_armed hc hL1 hL99
  rw [hfd, armCount_toNat _ hmax, max_eq_left hpos]
  exact ⟨rfl, hpos, fireDelay_antitone hmono (Fin.le_def.2 hL1)⟩

/-- The stop delay is within its own bound (R9, R121). -/
theorem countWithin_armed_stop {c : Config} (hc : c.wf = true) :
    CountWithin c.stopDelayUsec { pending := true, cnt := armCount c.stopDelayUsec } := by
  intro _
  rw [armCount_stopDelayUsec_toNat hc]
  exact ⟨(stopDelayUsec_bounds hc).1, le_rfl⟩

/-- Every effect keeps the invariants. A live block has item 5 for nothing. -/
theorem Effect.inv {i : Instr} {s t : State} (h : Effect i s t) (hs : Inv Config.current s) : Inv Config.current t := by
  have hwf := Config.current_wf
  obtain ⟨hlvl, hfd, hfire, hstop, -⟩ := inv_iff.1 hs
  have hlive : ∀ {p : Prop}, s.run = true → s.run = false → p := fun hrun hdead =>
    absurd (hdead.symm.trans hrun) Bool.false_ne_true
  have hfireIdle : CountWithin (fireDelay Config.current 1) { s.fire with pending := false } := countWithin_idle _ _
  have hstopIdle : CountWithin Config.current.stopDelayUsec { s.stop with pending := false } := countWithin_idle _ _
  rw [inv_iff]
  cases h with
  | unchanged => exact inv_iff.1 hs
  | setsLevel L hrun =>
    obtain ⟨hlvl', hfd'⟩ := levelPair_of_write hwf L
    exact ⟨hlvl', hfd', hfire, hstop, hlive hrun⟩
  | overrides _ hrun | fallForces _ hrun | fireExpires hrun => exact ⟨hlvl, hfd, hfireIdle, hstop, hlive hrun⟩
  | shutdown => exact ⟨hlvl, hfd, hfireIdle, hstopIdle, fun _ => ⟨rfl, rfl, rfl⟩⟩
  | fallArms hrun _ h0 h100 =>
    obtain ⟨hcount, hpos, hmax⟩ := armCount_fd_toNat hwf hfd (by omega) (by omega)
    exact ⟨hlvl, hfd, fun _ => ⟨by simp only; omega, by simp only; omega⟩, hstop, hlive hrun⟩
  | riseArms hrun => exact ⟨hlvl, hfd, hfire, countWithin_armed_stop hwf, hlive hrun⟩
  | stopExpires hrun => exact ⟨hlvl, hfd, hfire.afterStopExpiry, hstopIdle, hlive hrun⟩
  | tickCounts hrun => exact ⟨hlvl, hfd, hfire.channelCount, hstop.channelCount, hlive hrun⟩
  | tickExpiresFire hrun => exact ⟨hlvl, hfd, hfireIdle, hstop.channelCount, hlive hrun⟩
  | tickExpiresStop hrun => exact ⟨hlvl, hfd, hfire.channelCount.afterStopExpiry, hstopIdle, hlive hrun⟩
  | tickExpiresBoth _ _ hrun => exact ⟨hlvl, hfd, hfireIdle, hstopIdle, hlive hrun⟩
  | reset =>
    obtain ⟨hlvl', hfd'⟩ := levelPair_of_write hwf Config.current.defaultLevel
    exact ⟨hlvl', hfd', countWithin_idle _ _, countWithin_idle _ _, nofun⟩

/-- Settles O56: a step runs an operation on the state whose word has been taken, which has the same nine fields. -/
theorem stepKeepsTheInvariants : Obligations.StepKeepsTheInvariants := by
  intro s t hs hstep
  have hitems := inv_iff.1 hs
  have hfetched : Inv Config.current (afterFetch s) := inv_iff.2 hitems
  obtain ⟨i, u, -, hexec, hnext⟩ | ⟨_, -, hrefused⟩ := step_cases s
  · obtain rfl : u = t := Host.Outcome.next.inj (hnext.symm.trans hstep)
    exact (effect_of_exec hexec).inv hfetched
  · exact nomatch hrefused.symm.trans hstep

/-- Settles O55: the pair is that of the default level, no timer is pending, and the block is live. -/
theorem resetMeetsTheInvariants : Obligations.ResetMeetsTheInvariants := by
  obtain ⟨hlvl, hfd⟩ := levelPair_of_write Config.current_wf Config.current.defaultLevel
  exact inv_iff.2 ⟨hlvl, hfd, countWithin_idle _ _, countWithin_idle _ _, nofun⟩

/-! ## The sequencing triples and their labels (R32) -/

/-- The label is a function of the triple. -/
theorem stateLabel_of_triple {s : State} {o f p : Bool} (h : triple s = (o, f, p)) :
    stateLabel s =
      if p = true then .awaitingSafeStop else if f = true then .awaitingFire else if o = true then .on else .off := by
  cases h
  rfl

/-- START asserts, FALL at the default level arms the fire channel and RISE the stop channel, each where it is wanted. -/
def opsReaching (o f p : Bool) : List Instr :=
  (if o then [.start] else []) ++ (if f then [.fall] else []) ++ (if p then [.rise] else [])

theorem runOps_opsReaching (o f p : Bool) :
    ∃ t, runOps (opsReaching o f p) State.reset = .next t ∧ t.run = true ∧ triple t = (o, f, p) := by
  cases o <;> cases f <;> cases p <;> exact ⟨_, rfl, rfl, rfl⟩

/-- Settles O57: the runs of `opsReaching`. -/
theorem everyTripleIsReachable : Obligations.EveryTripleIsReachable := by
  intro o f p
  obtain ⟨t, ht, hrun, htriple⟩ := runOps_opsReaching o f p
  exact ⟨opsReaching o f p, t, ht, hrun, htriple, stateLabel_of_triple htriple⟩

/-! ## The intended cycle (41_zero_cross.md R117) -/

/-- From a live state in which only the fire channel runs: the triple stays until the TICK that its count announces, which
ends the timer and asserts the output. -/
theorem ticks_of_awaitingFire {s : State} {o : Bool} (hrun : s.run = true) (htriple : triple s = (o, true, false))
    (hpos : 1 ≤ s.fire.cnt.toNat) :
    (∀ k < s.fire.cnt.toNat, ∃ x, runOps (List.replicate k .tick) s = .next x ∧ triple x = (o, true, false)) ∧
    ∃ x, runOps (List.replicate s.fire.cnt.toNat .tick) s = .next x ∧ x.run = true ∧ triple x = (true, false, false) := by
  simp only [triple, Prod.mk.injEq] at htriple
  obtain ⟨hout, hfire, hstop⟩ := htriple
  constructor
  · intro k hk
    obtain ⟨x, -, hx⟩ := runOps_ticks_alone (ch := .fire) hrun hfire hstop hk
    exact ⟨_, hx, by simp [triple, hout, hstop]⟩
  · obtain ⟨x, hx⟩ := runOps_ticks_alone_expires (ch := .fire) hrun hfire hstop hpos
    exact ⟨_, hx, hrun, by simp [triple, expiryOutput, hstop]⟩

/-- The same for the stop channel, whose expiry de-asserts. -/
theorem ticks_of_awaitingSafeStop {s : State} {o : Bool} (hrun : s.run = true) (htriple : triple s = (o, false, true))
    (hpos : 1 ≤ s.stop.cnt.toNat) :
    (∀ k < s.stop.cnt.toNat, ∃ x, runOps (List.replicate k .tick) s = .next x ∧ triple x = (o, false, true)) ∧
    ∃ x, runOps (List.replicate s.stop.cnt.toNat .tick) s = .next x ∧ triple x = (false, false, false) := by
  simp only [triple, Prod.mk.injEq] at htriple
  obtain ⟨hout, hfire, hstop⟩ := htriple
  constructor
  · intro k hk
    obtain ⟨x, -, hx⟩ := runOps_ticks_alone (ch := .stop) hrun hstop hfire hk
    exact ⟨_, hx, by simp [triple, hout, hfire]⟩
  · obtain ⟨x, hx⟩ := runOps_ticks_alone_expires (ch := .stop) hrun hstop hfire hpos
    exact ⟨_, hx, by simp [triple, expiryOutput, hfire]⟩

/-- Settles O40: FALL arms the fire channel with `fd` and RISE the stop channel with STOP_DELAY_USEC; each then runs alone. -/
theorem intendedCycleReturnsToOff : Obligations.IntendedCycleReturnsToOff := by
  intro s hinv hrun h1 h99 htriple
  have hwf := Config.current_wf
  obtain ⟨hcount, hpos, -⟩ := armCount_fd_toNat hwf hinv.delay h1 h99
  have hfall : exec .fall s = .next (arm .fire s.fd.toInt s) :=
    congrArg Host.Outcome.next (fallOn_of_armed hrun (by omega) (by omega))
  have hfallTriple : triple (arm .fire s.fd.toInt s) = (false, true, false) := by
    simp_all [triple]
  have hfireCount : (arm .fire s.fd.toInt s).fire.cnt.toNat = s.fd.toInt.toNat := by
    rw [arm_fire_fire]
    exact (Int.toNat_natCast _).symm.trans (congrArg Int.toNat hcount)
  obtain ⟨hbefore, b, hb, hbrun, hbtriple⟩ := ticks_of_awaitingFire (s := arm .fire s.fd.toInt s) hrun hfallTriple (by omega)
  rw [hfireCount] at hbefore hb
  have hrise : exec .rise b = .next (arm .stop Config.current.stopDelayUsec b) :=
    congrArg Host.Outcome.next (riseOn_of_live hbrun)
  have hriseTriple : triple (arm .stop Config.current.stopDelayUsec b) = (true, false, true) := by
    simp_all [triple]
  have hstopCount : (arm .stop Config.current.stopDelayUsec b).stop.cnt.toNat = Config.current.stopDelayUsec :=
    armCount_stopDelayUsec_toNat hwf
  have hstopPos := (stopDelayUsec_bounds hwf).1
  obtain ⟨hbeforeStop, d, hd, hdtriple⟩ :=
    ticks_of_awaitingSafeStop (s := arm .stop Config.current.stopDelayUsec b) hbrun hriseTriple (by omega)
  rw [hstopCount] at hbeforeStop hd
  exact ⟨_, b, _, d, hfall, hfallTriple, hbefore, hb, hbtriple, hrise, hriseTriple, hbeforeStop, hd, hdtriple,
    stateLabel_of_triple htriple, stateLabel_of_triple hfallTriple, stateLabel_of_triple hbtriple,
    stateLabel_of_triple hriseTriple, stateLabel_of_triple hdtriple⟩

/-! ## Hazards -/

/-- Settles O58: SET_LEVEL 0 leaves the fire channel as it is, whose expiry asserts. -/
theorem levelZeroKeepsAPendingFireTimer : Obligations.LevelZeroKeepsAPendingFireTimer := by
  intro s hrun hpending hpos hstop
  have hset : exec (.setLevel 0) s = .next (writeLevel Config.current (clampLevel 0) s) :=
    congrArg Host.Outcome.next (setLevelOn_of_live 0 hrun)
  obtain ⟨x, hx⟩ := runOps_ticks_alone_expires (ch := .fire) (s := writeLevel Config.current (clampLevel 0) s) hrun hpending
    hstop hpos
  exact ⟨_, (runOps_cons_next _ _ _ _ hset).trans hx, rfl, rfl⟩

/-- Settles O59: START leaves only the stop channel running, which keeps the output until its expiry. -/
theorem staleStopTimerDeassertsAStart : Obligations.StaleStopTimerDeassertsAStart := by
  intro s hrun hpending hpos
  have hstart : exec .start s = .next (forceOutput true s) := congrArg Host.Outcome.next (overrideOn_of_live hrun)
  have hidle : (forceOutput true s).fire.pending = false := rfl
  constructor
  · intro k hk
    obtain ⟨x, -, hx⟩ := runOps_ticks_alone (ch := .stop) (s := forceOutput true s) hrun hpending hidle hk
    exact ⟨_, (runOps_cons_next _ _ _ _ hstart).trans hx, rfl⟩
  · obtain ⟨x, hx⟩ := runOps_ticks_alone_expires (ch := .stop) (s := forceOutput true s) hrun hpending hidle hpos
    exact ⟨_, (runOps_cons_next _ _ _ _ hstart).trans hx, rfl⟩

theorem representable_iff (c : Config) :
    c.representable = true ↔ c.halfPeriodUsec ≤ 65535 ∧ ∀ L : Level, -2147483648 ≤ fireDelay c L := by
  simp [Config.representable]

/-- R121 with R96: a fire delay that fits the register and is not positive loads 1. -/
theorem armCount_fdValue_of_nonpos {c : Config} (hc : c.representable = true) {L : Level} (hd : fireDelay c L ≤ 0) :
    armCount (fdValue c L).toInt = 1 := by
  have hlow := ((representable_iff c).1 hc).2 L
  have hreg : (fdValue c L).toInt = fireDelay c L :=
    BitVec.toInt_ofInt_eq_self (by decide) (by norm_num; omega) (by norm_num; omega)
  have hcount := armCount_toNat (fdValue c L).toInt (by omega)
  rw [hreg, max_eq_right (by omega)] at hcount
  rw [hreg]
  exact BitVec.eq_of_toNat_eq (by exact_mod_cast hcount)

/-- Settles O60: R12 item 3 fails at the level; FALL arms 1, which makes the fire channel due in the next TICK. -/
theorem nonPositiveDelayArmsOneMicrosecond : Obligations.NonPositiveDelayArmsOneMicrosecond := by
  intro c v s hc h1 h99 hd hrun hstop
  have hL1 : 1 ≤ (clampLevel v).val := by rw [clampLevel_val]; omega
  have hL99 : (clampLevel v).val ≤ 99 := by rw [clampLevel_val]; omega
  have hfall : fallOn (setLevelOn c v s) =
      withChannel .fire { pending := true, cnt := 1 } (writeLevel c (clampLevel v) s) := by
    rw [setLevelOn_of_live v hrun, fallOn_writeLevel_of_armed hrun hL1 hL99, arm, armCount_fdValue_of_nonpos hc hd]
  refine ⟨?ill, by rw [hfall]; rfl, ?tick⟩
  case ill =>
    rw [← Bool.not_eq_true]
    intro hwf
    have hpos := (fireDelay_bounds_of_armed hwf hL1 hL99).1
    omega
  case tick =>
    rw [hfall]
    refine (tickOn_expires_fire c ?_ ?_).2 ?_
    · exact hrun
    · rfl
    · exact channelDue_of_idle hstop

end Sys2Proof.Machine
end
